-- ==== Sys2Proof/Word.lean ====
section
/-! DEFINITION. The plain types of the OW ROM-search core: bytes, bit positions and the ROM id (00_scope.md R8, R9). -/

namespace Sys2Proof

/-- An 8-bit unsigned value (00_scope.md R9). -/
abbrev Byte := BitVec 8

/-- A 7-bit counter or bit position: P, LZ, LD, LFD (10_state.md R12). -/
abbrev Position := BitVec 7

/-- A ROM id: `ROM_BYTES` = 8 bytes, byte 0 the family code (00_scope.md R8, 10_state.md R13). -/
abbrev Rom := Vector Byte 8

end Sys2Proof
end

