-- ==== Sys2Proof/Syntax.lean ====
section
/-! DEFINITION. The instructions: one constructor for each row of spec/opcode_table.json (30_encoding.md R61, R67). -/

namespace Sys2Proof

/-- The ten rows of the opcode table. The first six are host commands (format CMDW, 30_encoding.md R60, R61). The last
four are the requests the block itself puts on its PHY port (format PHYREQ, 30_encoding.md R67). -/
inductive Instr where
  /-- `FIRST` (42_session.md R100). -/
  | first
  /-- `NEXT` (42_session.md R101). -/
  | next
  /-- `VERIFY rom` (42_session.md R102); `rom` is the value on ROM_IN (30_encoding.md R62). -/
  | verify (rom : BitVec 64)
  /-- `TARGET_SETUP familyCode` (42_session.md R103); `familyCode` is A = CMD[15:8]. -/
  | targetSetup (familyCode : Byte)
  /-- `FAMILY_SKIP_SETUP` (42_session.md R104). -/
  | familySkipSetup
  /-- `CRC_STEP acc, byte` (40_crc8.md R74); `acc` is B = CMD[23:16], `byte` is A = CMD[15:8]. -/
  | crcStep (acc byte : Byte)
  /-- `PHY_RESET_BUS` (30_encoding.md R67, 10_state.md R34). -/
  | phyResetBus
  /-- `PHY_WRITE_BIT d` (30_encoding.md R67, 10_state.md R34). -/
  | phyWriteBit (d : Bool)
  /-- `PHY_READ_BIT` (30_encoding.md R67, 10_state.md R34). -/
  | phyReadBit
  /-- `PHY_WRITE_BYTE v` (30_encoding.md R67, 10_state.md R34). -/
  | phyWriteByte (v : Byte)
deriving DecidableEq, Repr

/-- The bits of an instruction on the port it belongs to. The two formats are on different ports, so a word of one is
never read as the other (30_encoding.md R60, R67). -/
inductive Encoded where
  /-- A command word on CMD with the value beside it on ROM_IN (30_encoding.md R60). -/
  | command (cmd : BitVec 32) (romIn : BitVec 64)
  /-- A request word on PHY_REQ (30_encoding.md R67). -/
  | request (word : BitVec 10)
deriving DecidableEq, Repr

/-- Why the decoder rejects a word (30_encoding.md R63, R67). The block's answer does not depend on it (log entry 19). -/
inductive DecodeError where
  /-- OP is 0b000 or 0b111. -/
  | reservedOp
  /-- CMD[7:3] is not 0. -/
  | reservedLow
  /-- CMD[31:24] is not 0. -/
  | reservedHigh
  /-- A = CMD[15:8] is not 0 in a command that takes no A. -/
  | operandA
  /-- B = CMD[23:16] is not 0 in a command that takes no B. -/
  | operandB
  /-- The DATA field of a PHY request has bits its primitive does not use. -/
  | requestData
deriving DecidableEq, Repr

end Sys2Proof
end

