-- ==== Sys2Proof/WellFormed.lean ====
section
/-! DEFINITION. Which command words are legal (30_encoding.md R63) and which instructions the block can be made to run
(30_encoding.md R61, R67). -/

namespace Sys2Proof

/-- OP = CMD[2:0] (30_encoding.md R60). -/
def opField (cmd : BitVec 32) : BitVec 3 := cmd.extractLsb' 0 3

/-- RSV0 = CMD[7:3] (30_encoding.md R60). -/
def rsv0Field (cmd : BitVec 32) : BitVec 5 := cmd.extractLsb' 3 5

/-- A = CMD[15:8] (30_encoding.md R60, R62). -/
def aField (cmd : BitVec 32) : Byte := cmd.extractLsb' 8 8

/-- B = CMD[23:16] (30_encoding.md R60, R62). -/
def bField (cmd : BitVec 32) : Byte := cmd.extractLsb' 16 8

/-- RSV1 = CMD[31:24] (30_encoding.md R60). -/
def rsv1Field (cmd : BitVec 32) : Byte := cmd.extractLsb' 24 8

/-- "OP is 0b000 or 0b111" (30_encoding.md R63). -/
def opReserved (cmd : BitVec 32) : Bool := opField cmd == 0b000 || opField cmd == 0b111

/-- "B != 0 and OP is not CRC_STEP" (30_encoding.md R63). -/
def strayB (cmd : BitVec 32) : Bool := bField cmd != 0 && opField cmd != 0b110

/-- "A != 0 and OP is neither TARGET_SETUP nor CRC_STEP" (30_encoding.md R63). -/
def strayA (cmd : BitVec 32) : Bool :=
  aField cmd != 0 && (opField cmd != 0b100 && opField cmd != 0b110)

/-- A command word is legal when none of the five conditions of 30_encoding.md R63 holds. -/
def legalCommand (cmd : BitVec 32) : Bool :=
  !(opReserved cmd || rsv0Field cmd != 0 || rsv1Field cmd != 0 || strayB cmd || strayA cmd)

/-- Well-formed: a host command (every operand value its fields hold is accepted, 30_encoding.md R62), or one of the five
requests the block issues: "The block issues only these five words" (30_encoding.md R67). The decoder and the machine
also take a WRITE_BYTE of another value. -/
def Instr.wellFormed : Instr → Bool
  | .first => true
  | .next => true
  | .verify _ => true
  | .targetSetup _ => true
  | .familySkipSetup => true
  | .crcStep _ _ => true
  | .phyResetBus => true
  | .phyWriteBit _ => true
  | .phyReadBit => true
  | .phyWriteByte v => v == Config.searchCmd

end Sys2Proof
end

