-- ==== Sys2Proof/Decode.lean ====
section
/-! DEFINITION. The decoder, total on all words and rejecting by name, and the encoder (30_encoding.md R60 to R67). -/

namespace Sys2Proof

/-- `decode` of 30_encoding.md R64, each ILLEGAL with its reason (R63). -/
def decodeCommand (cmd : BitVec 32) (romIn : BitVec 64) : Except DecodeError Instr :=
  if rsv1Field cmd ≠ 0 then .error .reservedHigh
  else if rsv0Field cmd ≠ 0 then .error .reservedLow
  else if opReserved cmd then .error .reservedOp
  else if strayB cmd then .error .operandB
  else if strayA cmd then .error .operandA
  else if opField cmd = 0b001 then .ok .first
  else if opField cmd = 0b010 then .ok .next
  else if opField cmd = 0b011 then .ok (.verify romIn)
  else if opField cmd = 0b100 then .ok (.targetSetup (aField cmd))
  else if opField cmd = 0b101 then .ok .familySkipSetup
  else .ok (.crcStep (bField cmd) (aField cmd))

/-- ROP = PHY_REQ[9:8] (30_encoding.md R67). -/
def ropField (word : BitVec 10) : BitVec 2 := word.extractLsb' 8 2

/-- DATA = PHY_REQ[7:0] (30_encoding.md R67). -/
def dataField (word : BitVec 10) : Byte := word.extractLsb' 0 8

/-- The primitive a PHY request word names (30_encoding.md R67). -/
def decodeRequest (word : BitVec 10) : Except DecodeError Instr :=
  if ropField word = 0b00 then
    if dataField word = 0 then .ok .phyResetBus else .error .requestData
  else if ropField word = 0b01 then
    if dataField word = 0 then .ok (.phyWriteBit false)
    else if dataField word = 1 then .ok (.phyWriteBit true)
    else .error .requestData
  else if ropField word = 0b10 then
    if dataField word = 0 then .ok .phyReadBit else .error .requestData
  else .ok (.phyWriteByte (dataField word))

/-- The decoder of both ports. -/
def decode : Encoded → Except DecodeError Instr
  | .command cmd romIn => decodeCommand cmd romIn
  | .request word => decodeRequest word

/-- OP in bits 2:0, A in 15:8, B in 23:16, every other bit 0 (30_encoding.md R60, R69). -/
def commandWord (op : BitVec 3) (a b : Byte) : BitVec 32 :=
  op.setWidth 32 ||| a.setWidth 32 <<< 8 ||| b.setWidth 32 <<< 16

/-- `{ROP, DATA}`: ROP in bits 9:8, DATA in 7:0 (30_encoding.md R67). -/
def requestWord (rop : BitVec 2) (data : Byte) : BitVec 10 :=
  data.setWidth 10 ||| rop.setWidth 10 <<< 8

/-- The RESET_BUS request, 0x000 (30_encoding.md R67). -/
def Request.resetBus : BitVec 10 := requestWord 0b00 0

/-- The WRITE_BIT(d) request, 0x100 + d (30_encoding.md R67). -/
def Request.writeBit (d : Bool) : BitVec 10 := requestWord 0b01 (if d then 1 else 0)

/-- The READ_BIT request, 0x200 (30_encoding.md R67). -/
def Request.readBit : BitVec 10 := requestWord 0b10 0

/-- The WRITE_BYTE(v) request, 0x300 + v (30_encoding.md R67). -/
def Request.writeByte (v : Byte) : BitVec 10 := requestWord 0b11 v

/-- The words of an instruction (30_encoding.md R60, R61, R67). ROM_IN is ignored by every command but VERIFY (R62),
and the encoder puts 0 there. -/
def encode : Instr → Encoded
  | .first => .command (commandWord 0b001 0 0) 0
  | .next => .command (commandWord 0b010 0 0) 0
  | .verify rom => .command (commandWord 0b011 0 0) rom
  | .targetSetup familyCode => .command (commandWord 0b100 familyCode 0) 0
  | .familySkipSetup => .command (commandWord 0b101 0 0) 0
  | .crcStep acc byte => .command (commandWord 0b110 byte acc) 0
  | .phyResetBus => .request Request.resetBus
  | .phyWriteBit d => .request (Request.writeBit d)
  | .phyReadBit => .request Request.readBit
  | .phyWriteByte v => .request (Request.writeByte v)

/-- The bits of an instruction as one number, numbered as spec/opcode_table.json numbers them, ROM_IN above CMD. -/
def Encoded.toNat : Encoded → Nat
  | .command cmd romIn => cmd.toNat + romIn.toNat * 2 ^ 32
  | .request word => word.toNat

/-- The instruction whose bits, numbered as the opcode table numbers them, are `w`. The two formats are told apart by
their length: a PHYREQ row has 10 bits (16 in whole bytes), a CMDW row 32. The bits above CMD, if any, are ROM_IN
(log entry 3). -/
def decodeTableWord (nbits w : Nat) : Option Instr :=
  if nbits ≤ 16 then
    if w < 2 ^ 10 then (decode (.request (BitVec.ofNat 10 w))).toOption else none
  else if nbits < 32 then none
  else if w < 2 ^ 96 then
    (decode (.command (BitVec.ofNat 32 w) (BitVec.ofNat 64 (w / 2 ^ 32)))).toOption
  else none

/-- The width, match and mask of an instruction's row in spec/opcode_table.json. -/
def Instr.row : Instr → Nat × Nat × Nat
  | .first => (32, 0x00000001, 0xFFFFFFFF)
  | .next => (32, 0x00000002, 0xFFFFFFFF)
  | .verify _ => (32, 0x00000003, 0xFFFFFFFF)
  | .targetSetup _ => (32, 0x00000004, 0xFFFF00FF)
  | .familySkipSetup => (32, 0x00000005, 0xFFFFFFFF)
  | .crcStep _ _ => (32, 0x00000006, 0xFF0000FF)
  | .phyResetBus => (10, 0x000, 0x3FF)
  | .phyWriteBit _ => (10, 0x100, 0x3FE)
  | .phyReadBit => (10, 0x200, 0x3FF)
  | .phyWriteByte _ => (10, 0x300, 0x300)

end Sys2Proof
end

