-- ==== Sys2Proof/Machine/Crc8.lean ====
section
/-! DEFINITION. The CRC-8 engine: table step, accumulation, and the generation of the table (40_crc8.md R71, R72). -/

namespace Sys2Proof.Machine

/-- `TABLE[i]` (00_scope.md R10): row i[7:4], column i[3:0] of the parameter CRC8_TABLE (40_crc8.md R73). Every 8-bit
index is in range (20_memory.md R41). -/
def tableEntry (table : CrcTable) (i : Byte) : Byte :=
  (table[(i.extractLsb' 4 4).toFin])[(i.extractLsb' 0 4).toFin]

/-- `crc8_step(acc, byte) = TABLE[acc xor byte]` (40_crc8.md R71). -/
def crc8Step (table : CrcTable) (acc byte : Byte) : Byte := tableEntry table (acc ^^^ byte)

/-- The accumulator after a run of bytes (40_crc8.md R71), from any start. -/
def crc8Run (table : CrcTable) (acc : Byte) (bytes : List Byte) : Byte := bytes.foldl (crc8Step table) acc

/-- One shift of the reflected polynomial division, constant 0x8C (40_crc8.md R72). -/
def crcShift (x : Byte) : Byte := if x.getLsbD 0 then (x >>> 1) ^^^ 0x8C else x >>> 1

/-- `g` of 40_crc8.md R72: eight shifts. -/
def crcGenerate (x : Byte) : Byte := Nat.repeat crcShift 8 x

/-- Bit `i` of the bit-serial CRC: `fb = (acc xor (byte >> i))[0]`, then shift and correct (40_crc8.md R72). -/
def crcSerialBit (byte acc : Byte) (i : Nat) : Byte :=
  if (acc ^^^ (byte >>> i)).getLsbD 0 then (acc >>> 1) ^^^ 0x8C else acc >>> 1

/-- The bit-serial CRC over the 8 bits of `byte`, least significant first (40_crc8.md R72). -/
def crcSerial (acc byte : Byte) : Byte := (List.range 8).foldl (crcSerialBit byte) acc

end Sys2Proof.Machine
end

