-- ==== Sys2Proof/Machine/State.lean ====
section
/-! DEFINITION. The state of the block as plain data (10_state.md R12), its faults and refusals, and the state after
reset (10_state.md R36). -/

namespace Sys2Proof.Machine

/-- SearchState, "the tuple `(ROM, LD, LFD, LDF)`" (10_state.md R13 to R17). -/
structure SearchState where
  /-- ROM[0..7] (R13). -/
  rom : Rom
  /-- LD, lastDiscrepancy (R14). -/
  ld : Position
  /-- LFD, lastFamilyDiscrepancy (R15). -/
  lfd : Position
  /-- LDF, exhausted (R16). -/
  ldf : Bool
deriving DecidableEq, Repr

/-- The scratch registers of a search pass (10_state.md R18 to R23). -/
structure PassRegs where
  /-- CRC, the pass accumulator (R18). -/
  crc : Byte
  /-- P, the bit position (R19). -/
  p : Position
  /-- BYTE, the byte index (R19). -/
  byte : BitVec 4
  /-- MASK, the one-hot bit mask (R19). -/
  mask : Byte
  /-- LZ, lastZero (R21). -/
  lz : Position
  /-- IDB, the first bit read (R22). -/
  idb : Bool
  /-- CMPB, the second bit read (R22). -/
  cmpb : Bool
  /-- DIR, the direction chosen (R23). -/
  dir : Bool
deriving DecidableEq, Repr

/-- The response registers RSP_FOUND, RSP_ILLEGAL and RSP_CRC (10_state.md R30). -/
structure Response where
  found : Bool
  illegal : Bool
  crc : Byte
deriving DecidableEq, Repr

/-- MODE (10_state.md R24): 0 = SEARCH for FIRST and NEXT, 1 = VERIFY. -/
inductive Mode where
  | search
  | verify
deriving DecidableEq, Repr

/-- FSM, a 3-bit register (10_state.md R26), one constructor for each code (log entry 12). Codes 6 and 7 "are never written; a model
meeting them faults". -/
inductive Fsm where
  /-- 0: no command in progress. -/
  | idle
  /-- 1: RESET_BUS issued. -/
  | rstWait
  /-- 2: WRITE_BYTE(SEARCH_CMD) issued. -/
  | cmdWait
  /-- 3: READ_BIT issued for idBit. -/
  | idWait
  /-- 4: READ_BIT issued for cmpBit. -/
  | cmpWait
  /-- 5: WRITE_BIT(DIR) issued. -/
  | dirWait
  /-- 6: no meaning. -/
  | bad6
  /-- 7: no meaning. -/
  | bad7
deriving DecidableEq, Repr

/-- The outcome labels of 60_exceptions.md R130, "the spec's own labels. A model records them in its trace". -/
inductive Label where
  | none
  | busResetFailure
  | busProtocolViolation
  | checksumMismatch
  | invalidRom
  | phyError
  | exhausted
  | illegalCommand
deriving DecidableEq, Repr

/-- One entry of the model's trace: what the block put out (20_memory.md R54), or a reset edge (log entry 11). -/
inductive Event where
  /-- A PHY request issued (30_encoding.md R67). -/
  | request (word : BitVec 10)
  /-- A response given (30_encoding.md R66) and the outcome's label (60_exceptions.md R130). -/
  | response (word : BitVec 16) (label : Label)
  /-- An edge with RST = 1 (70_reset_and_hazards.md R151). -/
  | reset
deriving DecidableEq, Repr

/-- The whole state: the registers of 10_state.md R12, the held outputs of R30, R32 and R34, the open parameter of
00_scope.md R8, and the model's own record of the input levels and of what was put out. -/
structure State where
  /-- ROM, LD, LFD and LDF. -/
  search : SearchState
  /-- CRC, P, BYTE, MASK, LZ, IDB, CMPB and DIR. -/
  pass : PassRegs
  /-- MODE. -/
  mode : Mode
  /-- SV_ROM, SV_LD, SV_LFD and SV_LDF (R25). -/
  saved : SearchState
  /-- VROM (R25). -/
  vrom : Rom
  /-- FSM. -/
  fsm : Fsm
  /-- RSP_FOUND, RSP_ILLEGAL and RSP_CRC. -/
  rsp : Response
  /-- RSP_VALID, "raised for that one event" (R30). -/
  rspValid : Bool
  /-- PHY_REQ_VALID, "high for one cycle when a request is issued" (R34). -/
  phyReqValid : Bool
  /-- PHY_REQ, "the request encoding of 30_encoding.md rule R67, held stable until the response arrives" (R34); only a new
  request writes it (log entry 10). -/
  phyReq : BitVec 10
  /-- The parameter CRC8_TABLE (00_scope.md R8): read-only, so nothing writes it (20_memory.md R41, R52; log entry 5). -/
  crc8Table : CrcTable
  /-- The model's own: what was put out, newest first (log entry 11). -/
  trace : List Event
  /-- The model's own: the input levels at the coming edge (log entry 2). -/
  inputs : Inputs
  /-- The model's own: the input levels at the edges after that (log entry 2). -/
  script : List Inputs
  /-- The model's own: how many edges took free levels (log entry 2). -/
  draws : Nat
deriving DecidableEq, Repr

/-- Why the machine stops. No state reachable from reset raises one. -/
inductive Fault where
  /-- Raised by the range check of `Machine/Ops.lean` in a state that breaks 10_state.md R20: the model "must treat the
  next step as a fault". Safe. -/
  | outOfRange
  /-- Raised by an access to ROM[8] or above: ROM has bytes 0 to 7 (20_memory.md R41). Safe. -/
  | romIndex
  /-- Raised by a PHY response when FSM waits for the answer to another request than the one on PHY_REQ, or when PHY_REQ
  holds no request's word: such a response has "no move" (93_implementation_defined.md I4, 70_reset_and_hazards.md R160). Safe. -/
  | requestMismatch
deriving DecidableEq, Repr

/-- Why the machine refuses an instruction. Every instruction has its meaning, so nothing raises one. -/
inductive Refusal where
  /-- Raised only by an arm of `exec` with no meaning yet; no arm is one. Safe. -/
  | notModelled (mnemonic : String)
deriving DecidableEq, Repr

/-- The outcome of a step of this machine. -/
abbrev Result := Host.Outcome State Fault Refusal

/-- The initial values of SearchState (10_state.md R17, R36). -/
def SearchState.reset : SearchState :=
  { rom := Config.romReset, ld := 0, lfd := 0, ldf := false }

/-- The pass registers after reset (10_state.md R36). -/
def PassRegs.reset : PassRegs :=
  { crc := 0, p := 1, byte := 0, mask := 0x01#8, lz := 0, idb := false, cmpb := false, dir := false }

/-- The machine right after reset (10_state.md R36). R36 gives PHY_REQ no value: 0x000 is the model's (log entry 10). The
parameter is at its default (log entry 5), the script empty and the first edge quiet (log entry 2). -/
def State.reset : State :=
  { search := SearchState.reset
    pass := PassRegs.reset
    mode := .search
    saved := { rom := Vector.replicate 8 0, ld := 0, lfd := 0, ldf := false }
    vrom := Vector.replicate 8 0
    fsm := .idle
    rsp := { found := false, illegal := false, crc := 0 }
    rspValid := false
    phyReqValid := false
    phyReq := 0x000#10
    crc8Table := Config.crc8Table
    trace := []
    inputs := Inputs.quiet
    script := []
    draws := 0 }

end Sys2Proof.Machine
end

