-- ==== Sys2Proof/Machine/Flags.lean ====
section
/-! DEFINITION. The flags: LDF, the response bits and the packed codes of the ports (10_state.md R16, R29; 30_encoding.md
R66, R68; 60_exceptions.md R130). -/

namespace Sys2Proof.Machine

/-- RSP[15:0] = {CRC, 0b000000, ILLEGAL, FOUND} (30_encoding.md R66). -/
def Response.word (r : Response) : BitVec 16 :=
  r.crc ++ 0#6 ++ BitVec.ofBool r.illegal ++ BitVec.ofBool r.found

/-- PHY_RSP[1:0] = {ERR, BIT}: the packed form of the PHY's response (30_encoding.md R68). -/
def phyRspWord (i : Inputs) : BitVec 2 := BitVec.ofBool i.phyErr ++ BitVec.ofBool i.phyBit

/-- The same levels with the packed response `w` presented, PHY_RSP_VALID = 1 (30_encoding.md R68). -/
def withPhyRsp (i : Inputs) (w : BitVec 2) : Inputs :=
  { i with phyRspValid := true, phyBit := w.getLsbD 0, phyErr := w.getLsbD 1 }

/-- The response of a search command: FOUND alone (30_encoding.md R66). -/
def Response.ofFound (found : Bool) : Response := { found := found, illegal := false, crc := 0 }

/-- The response of CRC_STEP (40_crc8.md R74). -/
def Response.ofCrc (crc : Byte) : Response := { found := false, illegal := false, crc := crc }

/-- The response to an illegal word (60_exceptions.md R133). -/
def Response.ofIllegal : Response := { found := false, illegal := true, crc := 0 }

/-- LDF after a successful pass: set if LZ is 0, else as it was (41_search.md R91). -/
def ldfAfterSuccess (ldf : Bool) (lz : Position) : Bool := if lz = 0 then true else ldf

/-- LDF after FAMILY_SKIP_SETUP, from the LD just written: it "never clears LDF" (42_session.md R104). -/
def ldfAfterSkip (ldf : Bool) (ld : Position) : Bool := if ld = 0 then true else ldf

/-- VERIFY's result: found, and all 64 bits equal (41_search.md R92). -/
def verifyMatch (found : Bool) (rom vrom : Rom) : Bool := found && decide (rom = vrom)

/-- The code of an FSM state (10_state.md R26). -/
def Fsm.code : Fsm → BitVec 3
  | .idle => 0
  | .rstWait => 1
  | .cmdWait => 2
  | .idWait => 3
  | .cmpWait => 4
  | .dirWait => 5
  | .bad6 => 6
  | .bad7 => 7

/-- The code of a mode (10_state.md R24). -/
def Mode.code : Mode → BitVec 1
  | .search => 0
  | .verify => 1

/-- The code of an outcome label (60_exceptions.md R130). -/
def Label.code : Label → Nat
  | .none => 0
  | .busResetFailure => 1
  | .busProtocolViolation => 2
  | .checksumMismatch => 3
  | .invalidRom => 4
  | .phyError => 5
  | .exhausted => 6
  | .illegalCommand => 7

/-- "Outcomes 1 to 5 are the failures" (60_exceptions.md R130). -/
def Label.isFailure (l : Label) : Bool := decide (1 ≤ l.code) && decide (l.code ≤ 5)

end Sys2Proof.Machine
end

