-- ==== Sys2Proof/Machine/Operands.lean ====
section
/-! DEFINITION. The operand forms: bits and bytes of a ROM id, its 64-bit packing, and the masked write of the pass
(20_memory.md R42, R43, R45). The bit order within a byte is the spec's own choice (log entry 18). -/

namespace Sys2Proof.Machine

/-- `ROM[i]` for a byte index; none past byte 7 (20_memory.md R41). -/
def romByte (rom : Rom) (i : Nat) : Option Byte := rom[i]?

/-- `ROMbit(p)` (20_memory.md R42), for `p` in 1..64. No rule reads it outside that range (41_search.md R86 reads it for
P < LD only, and R20 keeps P above 0); there it reads as position 1 for 0 and false past 64 (log entry 20). -/
def romBit (rom : Rom) (p : Nat) : Bool :=
  match romByte rom ((p - 1) / 8) with
  | some b => (b >>> ((p - 1) % 8)).getLsbD 0
  | none => false

/-- `ROMbit(p) <- b` (20_memory.md R42). -/
def setRomBit (rom : Rom) (p : Nat) (b : Bool) : Rom :=
  match romByte rom ((p - 1) / 8) with
  | some old =>
    rom.setIfInBounds ((p - 1) / 8)
      ((old &&& ~~~(1#8 <<< ((p - 1) % 8))) ||| ((if b then 1#8 else 0#8) <<< ((p - 1) % 8)))
  | none => rom

/-- The read-modify-write of ROM[BYTE] under MASK (41_search.md R88): `or MASK` for 1, `and not MASK` for 0. None when
there is no ROM[BYTE]. -/
def storeBit (rom : Rom) (i : Nat) (mask : Byte) (d : Bool) : Option Rom :=
  (romByte rom i).map fun old => rom.setIfInBounds i (if d then old ||| mask else old &&& ~~~mask)

/-- `ROM_OUT = {ROM[7], ..., ROM[0]}`: byte k in bits 8k+7:8k (20_memory.md R43). -/
def packRom (rom : Rom) : BitVec 64 :=
  rom[0].setWidth 64 ||| rom[1].setWidth 64 <<< 8 ||| rom[2].setWidth 64 <<< 16 ||| rom[3].setWidth 64 <<< 24
    ||| rom[4].setWidth 64 <<< 32 ||| rom[5].setWidth 64 <<< 40 ||| rom[6].setWidth 64 <<< 48
    ||| rom[7].setWidth 64 <<< 56

/-- Byte k of a packed id is bits 8k+7:8k (20_memory.md R43, 30_encoding.md R62). -/
def unpackRom (x : BitVec 64) : Rom :=
  #v[x.extractLsb' 0 8, x.extractLsb' 8 8, x.extractLsb' 16 8, x.extractLsb' 24 8,
     x.extractLsb' 32 8, x.extractLsb' 40 8, x.extractLsb' 48 8, x.extractLsb' 56 8]

/-- The id TARGET_SETUP writes: the family code and seven zero bytes (42_session.md R103). -/
def targetRom (familyCode : Byte) : Rom := #v[familyCode, 0, 0, 0, 0, 0, 0, 0]

end Sys2Proof.Machine
end

