-- ==== Sys2Proof/Machine/Ops.lean ====
section
/-! DEFINITION. The operations the meanings share: port values, range check, acceptance, requests and responses, the
search pass (41_search.md R80 to R92), the failure procedure (60_exceptions.md R131) and reset (70_reset_and_hazards.md
R151). -/

namespace Sys2Proof.Machine

/-! ## Ports -/

/-- CMD_READY = `FSM == IDLE and RST == 0` (10_state.md R32). -/
def State.cmdReady (s : State) : Bool := s.fsm == .idle && !s.inputs.rst

/-- ROM_OUT, ROM packed (10_state.md R33, 20_memory.md R43). -/
def State.romOut (s : State) : BitVec 64 := packRom s.search.rom

/-- RSP[15:0], kept from the response until the next (10_state.md R30, 30_encoding.md R66). -/
def State.rspWord (s : State) : BitVec 16 := s.rsp.word

/-! ## The ranges of 10_state.md R20 -/

/-- "MASK is one-hot" (10_state.md R12, R20). -/
def oneHot (m : Byte) : Bool :=
  m == 0x01 || m == 0x02 || m == 0x04 || m == 0x08 || m == 0x10 || m == 0x20 || m == 0x40 || m == 0x80

/-- "`FSM` is in 0..5" (10_state.md R20, R26). -/
def Fsm.legal : Fsm → Bool
  | .bad6 => false
  | .bad7 => false
  | _ => true

/-- The seven conditions of 10_state.md R20, in its order. -/
def State.inRange (s : State) : Bool :=
  decide (s.search.ld.toNat ≤ 64) && decide (s.search.lfd.toNat ≤ 8) && decide (s.pass.lz.toNat ≤ 64)
    && decide (1 ≤ s.pass.p.toNat) && decide (s.pass.p.toNat ≤ 65) && decide (s.pass.byte.toNat ≤ 8)
    && oneHot s.pass.mask && s.fsm.legal

/-- A step in a state outside the ranges is a fault (10_state.md R20; log entry 7). -/
def State.guarded (s : State) (r : Result) : Result :=
  if s.inRange then r else .fault .outOfRange

/-! ## Requests and responses -/

/-- `PhyReq(op, data)` (00_scope.md R10, 10_state.md R34): the request is on the port and outstanding. -/
def State.issue (s : State) (word : BitVec 10) : State :=
  { s with phyReq := word, phyReqValid := true, trace := .request word :: s.trace }

/-- `Respond(found, illegal, crc)` (00_scope.md R10, 10_state.md R30). The label goes to the trace only
(60_exceptions.md R130, R132). -/
def State.respond (s : State) (r : Response) (label : Label) : State :=
  { s with rsp := r, rspValid := true, trace := .response r.word label :: s.trace }

/-- `state <- S` (00_scope.md R10). -/
def State.goto (s : State) (f : Fsm) : State := { s with fsm := f }

/-- Command acceptance: only where CMD_READY = 1; a command presented otherwise is "not accepted" and has no effect
(70_reset_and_hazards.md R155; log entry 13). -/
def State.accept (s : State) (r : Result) : Result :=
  s.guarded (if s.cmdReady then r else .next s)

/-- Taking a PHY response in the wait state that issued the request: "The block takes a response only in RST_WAIT,
CMD_WAIT, ID_WAIT, CMP_WAIT or DIR_WAIT. It ignores a response in IDLE" (10_state.md R35, 70_reset_and_hazards.md R153);
none is taken while RST = 1 (R151). In another wait state the response answers no request: a fault (log entry 8). -/
def State.takeResponse (s : State) (waits : List Fsm) (r : Result) : Result :=
  s.guarded
    (if s.inputs.rst then .next s
     else if s.fsm = .idle then .next s
     else if s.fsm ∈ waits then r
     else .fault .requestMismatch)

/-! ## SearchState -/

/-- `reset_to_initial` (10_state.md R17): LD, LFD and LDF; ROM is left. -/
def State.resetToInitial (s : State) : State :=
  { s with search := { s.search with ld := 0, lfd := 0, ldf := false } }

/-- VERIFY's save (42_session.md R102, 10_state.md R25). -/
def State.saveSearch (s : State) : State := { s with saved := s.search }

/-- VERIFY's restore (41_search.md R92). -/
def State.restoreSearch (s : State) : State := { s with search := s.saved }

/-! ## The end of a command -/

/-- `finish(found)` (41_search.md R92). -/
def State.finish (s : State) (found : Bool) (label : Label) : State :=
  match s.mode with
  | .search => (s.respond (.ofFound found) label).goto .idle
  | .verify =>
    (s.restoreSearch.respond (.ofFound (verifyMatch found s.search.rom s.vrom)) label).goto .idle

/-- `fail(cause)` (60_exceptions.md R131). -/
def State.fail (s : State) (cause : Label) : State := s.resetToInitial.finish false cause

/-- `succeed()` (41_search.md R91). -/
def State.succeed (s : State) : State :=
  State.finish
    { s with search := { s.search with ld := s.pass.lz, ldf := ldfAfterSuccess s.search.ldf s.pass.lz } }
    true .none

/-- `evaluate()` (41_search.md R90). -/
def State.evaluate (s : State) : State :=
  if s.pass.crc ≠ 0#8 then s.fail .checksumMismatch
  else if s.search.rom[0] = 0#8 then s.fail .invalidRom
  else s.succeed

/-! ## The start of a pass -/

/-- `pass_init()` (41_search.md R81). -/
def State.passInit (s : State) : State :=
  (State.issue { s with pass := { s.pass with crc := 0, lz := 0, p := 1, byte := 0, mask := 0x01#8 } }
    Request.resetBus).goto .rstWait

/-- `begin_search(mode)` (41_search.md R80). -/
def State.beginSearch (s : State) (mode : Mode) : State :=
  let s1 := { s with mode := mode }
  if s1.search.ldf then s1.finish false .exhausted else s1.passInit

/-! ## The steps of a pass, on the PHY response (bit, err) -/

/-- RST_WAIT (41_search.md R82). -/
def State.onReset (s : State) (bit err : Bool) : State :=
  if err then s.fail .phyError
  else if bit = false then s.fail .busResetFailure
  else (s.issue (Request.writeByte Config.searchCmd)).goto .cmdWait

/-- CMD_WAIT (41_search.md R83). -/
def State.onCommandByte (s : State) (err : Bool) : State :=
  if err then s.fail .phyError else (s.issue Request.readBit).goto .idWait

/-- ID_WAIT (41_search.md R84). -/
def State.onIdBit (s : State) (bit err : Bool) : State :=
  if err then s.fail .phyError
  else (State.issue { s with pass := { s.pass with idb := bit } } Request.readBit).goto .cmpWait

/-- `choose_direction()` (41_search.md R86). -/
def State.chooseDirection (s : State) : Bool :=
  if s.pass.idb ≠ s.pass.cmpb then s.pass.idb
  else if s.pass.p.toNat < s.search.ld.toNat then romBit s.search.rom s.pass.p.toNat
  else decide (s.pass.p = s.search.ld)

/-- The 0 of a discrepancy: `IDB == 0 and CMPB == 0 and d == 0` (41_search.md R87). -/
def PassRegs.zeroBranch (p : PassRegs) (d : Bool) : Bool := !p.idb && !p.cmpb && !d

/-- `record_discrepancy(d)` (41_search.md R87): LZ, and at positions 1..8 LFD too. -/
def State.recordDiscrepancy (s : State) (d : Bool) : State :=
  { s with
    pass := { s.pass with lz := if s.pass.zeroBranch d then s.pass.p else s.pass.lz }
    search :=
      { s.search with
        lfd := if s.pass.zeroBranch d && decide (s.pass.p.toNat ≤ 8) then s.pass.p else s.search.lfd } }

/-- `write_direction(d)` (41_search.md R88). There is no ROM[8] to write (20_memory.md R41; log entry 9). -/
def State.writeDirection (s : State) (d : Bool) : Result :=
  match storeBit s.search.rom s.pass.byte.toNat s.pass.mask d with
  | none => .fault .romIndex
  | some rom =>
    .next ((State.issue
      { s with pass := { s.pass with dir := d }, search := { s.search with rom := rom } }
      (Request.writeBit d)).goto .dirWait)

/-- CMP_WAIT (41_search.md R85). -/
def State.onCmpBit (s : State) (bit err : Bool) : Result :=
  if err then .next (s.fail .phyError)
  else
    let s1 : State := { s with pass := { s.pass with cmpb := bit } }
    if s1.pass.idb && s1.pass.cmpb then .next (s1.fail .busProtocolViolation)
    else (s1.recordDiscrepancy s1.chooseDirection).writeDirection s1.chooseDirection

/-- The counters and the CRC feed of DIR_WAIT (41_search.md R89, 40_crc8.md R75): none where ROM[BYTE] is to be fed and
there is none. -/
def PassRegs.advance (p : PassRegs) (table : CrcTable) (rom : Rom) : Option PassRegs :=
  if p.mask = 0x80#8 then
    (romByte rom p.byte.toNat).map fun b =>
      { p with p := p.p + 1, crc := crc8Step table p.crc b, byte := p.byte + 1, mask := 0x01#8 }
  else some { p with p := p.p + 1, mask := p.mask <<< 1 }

/-- DIR_WAIT (41_search.md R89). -/
def State.onDirection (s : State) (err : Bool) : Result :=
  if err then .next (s.fail .phyError)
  else
    match s.pass.advance s.crc8Table s.search.rom with
    | none => .fault .romIndex
    | some pass =>
      let s1 : State := { s with pass := pass }
      if s1.pass.byte = 8#4 then .next s1.evaluate
      else .next ((s1.issue Request.readBit).goto .idWait)

/-! ## An illegal word, a quiet edge, and reset -/

/-- An accepted illegal word (60_exceptions.md R133). -/
def State.illegalCommand (s : State) : Result :=
  s.accept (.next (s.respond .ofIllegal .illegalCommand))

/-- An edge with nothing to accept or take: the registers keep their values (70_reset_and_hazards.md R150, R158). -/
def State.hold (s : State) : Result := s.guarded (.next s)

/-- A response in a wait state when PHY_REQ holds no request's word (93_implementation_defined.md I4; log entry 8). -/
def State.strayResponse (s : State) : Result := s.guarded (.fault .requestMismatch)

/-- RSP_VALID and PHY_REQ_VALID are high for one cycle: each edge starts with both low (10_state.md R30, R32, R34). -/
def State.beginEdge (s : State) : State := { s with rspValid := false, phyReqValid := false }

/-- An edge with RST = 1: every register at its value of 10_state.md R36 (70_reset_and_hazards.md R151, R152). R36 names
no value for PHY_REQ: a request outstanding "stays outstanding" (R152), and its word is held (R34; log entry 10). The
parameter and the model's own fields stay, and the trace records the reset (log entry 11). -/
def State.resetEdge (s : State) : State :=
  { State.reset with
    phyReq := s.phyReq, crc8Table := s.crc8Table, trace := .reset :: s.trace, inputs := s.inputs, script := s.script, draws := s.draws }

/-- The input levels move on to the next edge: the script's next, or a free draw (log entry 2). -/
def State.nextInputs (s : State) : State :=
  match s.script with
  | [] => { s with inputs := Config.freeInputs s.draws, draws := s.draws + 1 }
  | i :: rest => { s with inputs := i, script := rest }

/-- Apply a change to the next state, if there is one. -/
def mapNext (r : Result) (f : State → State) : Result :=
  match r with
  | .next s => .next (f s)
  | .fault e => .fault e
  | .refused e => .refused e

end Sys2Proof.Machine
end

