-- ==== Sys2Proof/Machine/CrcStep.lean ====
section
/-! DEFINITION. The meaning of CRC_STEP (40_crc8.md R74). -/

namespace Sys2Proof.Machine

/-- CRC_STEP (40_crc8.md R74): `Respond(found = 0, illegal = 0, crc = TABLE[B xor A])`; the pass accumulator is neither
read nor written. -/
def execCrcStep (acc byte : Byte) (s : State) : Result :=
  s.accept (.next (s.respond (.ofCrc (crc8Step s.crc8Table acc byte)) .none))

end Sys2Proof.Machine
end

