-- ==== Sys2Proof/Machine/Phy.lean ====
section
/-! DEFINITION. The meanings of the four PHY requests (30_encoding.md R67): the step in which the response to the
outstanding request arrives, with the state update and the next request or host response that follow (00_scope.md R7,
41_search.md R82 to R89; log entry 1). The response is on `inputs.phyBit` and `inputs.phyErr` (10_state.md R35). -/

namespace Sys2Proof.Machine

/-- PHY_RESET_BUS: BIT is the presence result (10_state.md R35); 41_search.md R82. -/
def execPhyResetBus (s : State) : Result :=
  s.takeResponse [.rstWait] (.next (s.onReset s.inputs.phyBit s.inputs.phyErr))

/-- PHY_WRITE_BIT d: BIT is ignored (10_state.md R35); 41_search.md R89. The bit was chosen and stored when the request
was issued (R88), so the answer's step does not read `d`. -/
def execPhyWriteBit (_d : Bool) (s : State) : Result :=
  s.takeResponse [.dirWait] (s.onDirection s.inputs.phyErr)

/-- PHY_READ_BIT: the first read of a position gives idBit (41_search.md R84), the second cmpBit (R85). -/
def execPhyReadBit (s : State) : Result :=
  s.takeResponse [.idWait, .cmpWait]
    (if s.fsm = .idWait then .next (s.onIdBit s.inputs.phyBit s.inputs.phyErr)
     else s.onCmpBit s.inputs.phyBit s.inputs.phyErr)

/-- PHY_WRITE_BYTE v: BIT is ignored (10_state.md R35); 41_search.md R83. The block issues it with SEARCH_CMD only
(30_encoding.md R67); the answer to another byte would be taken in the same way. -/
def execPhyWriteByte (_v : Byte) (s : State) : Result :=
  s.takeResponse [.cmdWait] (.next (s.onCommandByte s.inputs.phyErr))

end Sys2Proof.Machine
end

