-- ==== Sys2Proof/Machine/Session.lean ====
section
/-! DEFINITION. The meanings of the session commands (42_session.md R100 to R104). -/

namespace Sys2Proof.Machine

/-- FIRST (42_session.md R100). -/
def execFirst (s : State) : Result :=
  s.accept (.next (s.resetToInitial.beginSearch .search))

/-- NEXT (42_session.md R101). -/
def execNext (s : State) : Result :=
  s.accept (.next (s.beginSearch .search))

/-- VERIFY's own setup (42_session.md R102): save first, then VROM, ROM, LD and LDF; LFD is not written. -/
def State.verifySetup (s : State) (rom : Rom) : State :=
  { s.saveSearch with
    vrom := rom
    search := { s.search with rom := rom, ld := Config.verifyLd, ldf := false } }

/-- VERIFY (42_session.md R102); the operand is unpacked as 30_encoding.md R62 says. -/
def execVerify (rom : BitVec 64) (s : State) : Result :=
  s.accept (.next ((s.verifySetup (unpackRom rom)).beginSearch .verify))

/-- TARGET_SETUP (42_session.md R103). -/
def execTargetSetup (familyCode : Byte) (s : State) : Result :=
  s.accept (.next
    (State.respond
      { s with search := { rom := targetRom familyCode, ld := Config.verifyLd, lfd := 0, ldf := false } }
      (.ofFound false) .none))

/-- FAMILY_SKIP_SETUP (42_session.md R104). -/
def execFamilySkipSetup (s : State) : Result :=
  s.accept (.next
    (State.respond
      { s with
        search :=
          { s.search with
            ld := s.search.lfd, lfd := 0, ldf := ldfAfterSkip s.search.ldf s.search.lfd } }
      (.ofFound false) .none))

end Sys2Proof.Machine
end

