-- ==== Sys2Proof/Machine/Dispatch.lean ====
section
/-! DEFINITION. One arm for each instruction: a direct call of its meaning. -/

namespace Sys2Proof.Machine

def exec (i : Instr) (s : State) : Host.Outcome State Fault Refusal :=
  match i with
  | .first => Sys2Proof.Machine.execFirst s
  | .next => Sys2Proof.Machine.execNext s
  | .verify rom => Sys2Proof.Machine.execVerify rom s
  | .targetSetup familyCode => Sys2Proof.Machine.execTargetSetup familyCode s
  | .familySkipSetup => Sys2Proof.Machine.execFamilySkipSetup s
  | .crcStep acc byte => Sys2Proof.Machine.execCrcStep acc byte s
  | .phyResetBus => Sys2Proof.Machine.execPhyResetBus s
  | .phyWriteBit d => Sys2Proof.Machine.execPhyWriteBit d s
  | .phyReadBit => Sys2Proof.Machine.execPhyReadBit s
  | .phyWriteByte v => Sys2Proof.Machine.execPhyWriteByte v s

end Sys2Proof.Machine
end

