-- ==== Sys2Proof/Machine/Fetch.lean ====
section
/-! DEFINITION. What an edge has for the block to do: a command to accept, a response to take, or nothing (00_scope.md
R7, 30_encoding.md R64, 70_reset_and_hazards.md R153, R155). -/

namespace Sys2Proof.Machine

/-- What the ports offer at an edge with RST = 0. -/
inductive Fetched where
  /-- No command presented in IDLE, or no response yet in a wait state. -/
  | quiet
  /-- An illegal command word presented in IDLE (30_encoding.md R63). -/
  | illegal (why : DecodeError)
  /-- A command in IDLE, or in a wait state the outstanding request, whose response has arrived. -/
  | run (i : Instr)
  /-- A response in a wait state when PHY_REQ holds no request's word. -/
  | stray
deriving DecidableEq, Repr

/-- The command on CMD and ROM_IN (30_encoding.md R64). -/
def fetchCommand (s : State) : Fetched :=
  if s.inputs.cmdValid then
    match decode (.command s.inputs.cmd s.inputs.romIn) with
    | .ok i => .run i
    | .error why => .illegal why
  else .quiet

/-- The outstanding request, once its response has arrived (70_reset_and_hazards.md R153). -/
def fetchRequest (s : State) : Fetched :=
  if s.inputs.phyRspValid then
    match decode (.request s.phyReq) with
    | .ok i => .run i
    | .error _ => .stray
  else .quiet

/-- In IDLE the block looks at its host port, in every other state at its PHY port. -/
def fetch (s : State) : Fetched :=
  if s.fsm = .idle then fetchCommand s else fetchRequest s

/-- The wait state in which a request's response is taken (10_state.md R26). READ_BIT is issued in two states; CMP_WAIT
is kept if FSM is there. -/
def waitStateOf (word : BitVec 10) (now : Fsm) : Fsm :=
  if ropField word = 0b00 then .rstWait
  else if ropField word = 0b01 then .dirWait
  else if ropField word = 0b10 then (if now = .cmpWait then .cmpWait else .idWait)
  else .cmdWait

/-- The request `word` outstanding and its response arrived (log entry 3). -/
def State.withRequest (s : State) (word : BitVec 10) : State :=
  { s with
    fsm := waitStateOf word s.fsm
    phyReq := word
    inputs := { s.inputs with rst := false, phyRspValid := true } }

/-- A command word and ROM_IN presented to an idle block (log entry 3). -/
def State.withCommand (s : State) (cmd : BitVec 32) (romIn : BitVec 64) : State :=
  { s with
    fsm := .idle
    inputs := { s.inputs with rst := false, cmdValid := true, cmd := cmd, romIn := romIn } }

end Sys2Proof.Machine
end

