-- ==== Sys2Proof/Machine/Step.lean ====
section
/-! DEFINITION. One step: one rising edge of CLK (70_reset_and_hazards.md R150; log entry 4). -/

namespace Sys2Proof.Machine

/-- An edge with RST = 0: run what the ports offer. -/
def edge (s : State) : Host.Outcome State Fault Refusal :=
  match fetch s with
  | .quiet => s.hold
  | .illegal _ => s.illegalCommand
  | .run i => exec i s
  | .stray => s.strayResponse

/-- One edge: reset wins over everything (70_reset_and_hazards.md R151); then the inputs move on. -/
def step (s : State) : Host.Outcome State Fault Refusal :=
  if s.inputs.rst then .next s.resetEdge.nextInputs
  else mapNext (edge s.beginEdge) State.nextInputs

/-- `s` with the instruction whose bits are `w` where the next step takes it: a PHYREQ word outstanding on the PHY port
with its response arrived, a CMDW word on the host port of an idle block (log entry 3). -/
def State.withFetchWord (s : State) (nbits w : Nat) : State :=
  if nbits ≤ 16 then s.withRequest (BitVec.ofNat 10 w)
  else s.withCommand (BitVec.ofNat 32 w) (BitVec.ofNat 64 (w / 2 ^ 32))

end Sys2Proof.Machine
end

