-- ==== Sys2Proof/Machine/Assembler.lean ====
section
/-! DEFINITION. The command assembly language and its pseudo-instructions (30_encoding.md R69, R70). Host side: the block
sees only the words. -/

namespace Sys2Proof.Machine

/-- One line of assembly. Operands are numbers as written, not yet fitted to a field (30_encoding.md R69, R70). -/
inductive AsmLine where
  | first
  | next
  | verify (rom : Nat)
  | targetSetup (familyCode : Nat)
  | familySkipSetup
  | crcStep (acc byte : Nat)
  | crcCheck (bytes : List Nat)
  | searchFamily (familyCode : Nat)
  | skipFamily
deriving DecidableEq, Repr

/-- An operand in its field: "An operand that does not fit its field is an assembly error; no truncation is applied"
(30_encoding.md R69). -/
def fitOperand (width n : Nat) : Option (BitVec width) :=
  if n < 2 ^ width then some (BitVec.ofNat width n) else none

/-- All the byte operands of a list, or none if one does not fit. -/
def fitBytes : List Nat → Option (List Byte)
  | [] => some []
  | n :: rest =>
    match fitOperand 8 n, fitBytes rest with
    | some b, some bs => some (b :: bs)
    | _, _ => none

/-- `CRC_CHECK`: each CRC_STEP takes the accumulator the step before it answered, which the host carries (30_encoding.md
R70; the answer is 40_crc8.md R74's, by the block's table). -/
def crcCheckCommands (table : CrcTable) (acc : Byte) : List Byte → List Instr
  | [] => []
  | b :: rest => .crcStep acc b :: crcCheckCommands table (crc8Step table acc b) rest

/-- The commands a line expands to (30_encoding.md R69, R70); none for an assembly error. CRC_CHECK needs n >= 1. -/
def assembleLine (table : CrcTable) : AsmLine → Option (List Instr)
  | .first => some [.first]
  | .next => some [.next]
  | .verify rom => (fitOperand 64 rom).map fun r => [.verify r]
  | .targetSetup familyCode => (fitOperand 8 familyCode).map fun a => [.targetSetup a]
  | .familySkipSetup => some [.familySkipSetup]
  | .crcStep acc byte =>
    match fitOperand 8 acc, fitOperand 8 byte with
    | some b, some a => some [.crcStep b a]
    | _, _ => none
  | .crcCheck [] => none
  | .crcCheck (n :: rest) => (fitBytes (n :: rest)).map fun bs => crcCheckCommands table 0 bs
  | .searchFamily familyCode => (fitOperand 8 familyCode).map fun a => [.targetSetup a, .next]
  | .skipFamily => some [.familySkipSetup, .next]

/-- The value of a digit in base 16; letters in either case. -/
def digitValue (c : Char) : Option Nat :=
  if '0' ≤ c ∧ c ≤ '9' then some (c.toNat - 48)
  else if 'a' ≤ c ∧ c ≤ 'f' then some (c.toNat - 87)
  else if 'A' ≤ c ∧ c ≤ 'F' then some (c.toNat - 55)
  else none

/-- The digits of a number in a base, read onto `acc`. -/
def readDigits (base acc : Nat) : List Char → Option Nat
  | [] => some acc
  | c :: rest =>
    match digitValue c with
    | some d => if d < base then readDigits base (acc * base + d) rest else none
    | none => none

/-- "Numbers are hexadecimal with `0x` or decimal" (30_encoding.md R69). -/
def readNumber : List Char → Option Nat
  | [] => none
  | '0' :: 'x' :: c :: rest => readDigits 16 0 (c :: rest)
  | c :: rest => readDigits 10 0 (c :: rest)

/-- All the numbers of a list of words, or none if one is not a number. -/
def readNumbers : List (List Char) → Option (List Nat)
  | [] => some []
  | w :: rest =>
    match readNumber w, readNumbers rest with
    | some n, some ns => some (n :: ns)
    | _, _ => none

/-- "`;` starts a comment" (30_encoding.md R69). -/
def dropComment : List Char → List Char
  | [] => []
  | c :: rest => if c = ';' then [] else c :: dropComment rest

/-- The words of a line, split at blanks and commas (log entry 16). `word` is the word begun, reversed. -/
def splitWords (word : List Char) : List Char → List (List Char)
  | [] => if word = [] then [] else [word.reverse]
  | c :: rest =>
    if c = ' ' ∨ c = ',' ∨ c = '\t' then
      if word = [] then splitWords [] rest else word.reverse :: splitWords [] rest
    else splitWords (c :: word) rest

/-- A line's mnemonic and operands (30_encoding.md R69, R70). -/
def readLine (mnemonic : String) (operands : List Nat) : Option AsmLine :=
  match operands with
  | [] =>
    if mnemonic = "FIRST" then some .first
    else if mnemonic = "NEXT" then some .next
    else if mnemonic = "FAMILY_SKIP_SETUP" then some .familySkipSetup
    else if mnemonic = "SKIP_FAMILY" then some .skipFamily
    else none
  | [n] =>
    if mnemonic = "VERIFY" then some (.verify n)
    else if mnemonic = "TARGET_SETUP" then some (.targetSetup n)
    else if mnemonic = "SEARCH_FAMILY" then some (.searchFamily n)
    else if mnemonic = "CRC_CHECK" then some (.crcCheck [n])
    else none
  | [m, n] =>
    if mnemonic = "CRC_STEP" then some (.crcStep m n)
    else if mnemonic = "CRC_CHECK" then some (.crcCheck [m, n])
    else none
  | ns => if mnemonic = "CRC_CHECK" then some (.crcCheck ns) else none

/-- The words of one line of text, as the ports take them (30_encoding.md R69): none for an error, nothing for a line with
only a comment. -/
def assembleText (table : CrcTable) (line : String) : Option (List Encoded) :=
  match splitWords [] (dropComment line.toList) with
  | [] => some []
  | w :: rest =>
    match readNumbers rest with
    | some ns =>
      match readLine (String.ofList w) ns with
      | some l => (assembleLine table l).map (List.map encode)
      | none => none
    | none => none

end Sys2Proof.Machine
end

