-- ==== Sys2Proof/Machine/Bus.lean ====
section
/-! DEFINITION. The wired-AND bus of 95_test_vectors.md section 1, one PHY that a block can be run against. PRESUMED (log
entry 17): the spec takes it from general knowledge (93_implementation_defined.md G3), and the machine does not use it. -/

namespace Sys2Proof.Machine

/-- The devices on the bus and where they are in a search. -/
structure Bus where
  /-- The ids on the bus. -/
  devices : List Rom
  /-- The devices still taking part. -/
  active : List Rom
  /-- The bit position the devices are at. -/
  position : Nat
  /-- The first read of the position has been answered. -/
  firstRead : Bool
deriving DecidableEq, Repr

/-- A bus at rest. -/
def Bus.ofDevices (devices : List Rom) : Bus :=
  { devices := devices, active := [], position := 1, firstRead := false }

/-- "The first READ_BIT of position p answers the AND of the active devices' bit p." -/
def Bus.idBit (b : Bus) : Bool := b.active.all fun r => romBit r b.position

/-- "The second answers the AND of their complements." -/
def Bus.cmpBit (b : Bus) : Bool := b.active.all fun r => !romBit r b.position

/-- The bus's answer BIT to a request, and the bus after it. -/
def Bus.answer (b : Bus) : Instr → Bool × Bus
  | .phyResetBus =>
    (!b.devices.isEmpty, { b with active := b.devices, position := 1, firstRead := false })
  | .phyReadBit =>
    if b.firstRead then (b.cmpBit, { b with firstRead := false })
    else (b.idBit, { b with firstRead := true })
  | .phyWriteBit d =>
    (false,
      { b with
        active := b.active.filter fun r => romBit r b.position == d
        position := b.position + 1
        firstRead := false })
  | _ => (false, b)

/-- The input levels with which a bus answers, ERR = 0. -/
def answerInputs (bit : Bool) : Inputs := withPhyRsp .quiet (0#1 ++ BitVec.ofBool bit)

/-- One request of the block answered by the bus. -/
def busStep (b : Bus) (s : State) : Result × Bus :=
  match decode (.request s.phyReq) with
  | .ok i => (edge (State.beginEdge { s with inputs := answerInputs (b.answer i).1 }), (b.answer i).2)
  | .error _ => (.fault .requestMismatch, b)

/-- Requests answered by the bus until the block is IDLE, at most `fuel` of them (41_search.md R94: 194 are enough). -/
def runOnBus : Nat → Bus → State → Result × Bus
  | 0, b, s => (.next s, b)
  | fuel + 1, b, s =>
    if s.fsm = .idle then (.next s, b)
    else
      match busStep b s with
      | (.next t, b') => runOnBus fuel b' t
      | (r, b') => (r, b')

/-- A command run to its response on a bus. -/
def commandOnBus (i : Instr) (b : Bus) (s : State) : Result × Bus :=
  match exec i (State.beginEdge { s with inputs := .quiet }) with
  | .next t => runOnBus 194 b t
  | r => (r, b)

end Sys2Proof.Machine
end

