-- ==== Sys2Proof/Safety.lean ====
section
/-! DEFINITION. What the statements say of a run: the invariant of every reachable state (10_state.md R19, R20, R26), the
request sequence of a pass (41_search.md R93), the accumulator (40_crc8.md R75), how far a pass has to go (41_search.md
R94), and the order in which an enumeration finds the ids of a bus (41_search.md R95). -/

namespace Sys2Proof.Machine

/-- FSM waits for a PHY response (10_state.md R26). -/
def Fsm.waiting : Fsm → Bool
  | .rstWait => true
  | .cmdWait => true
  | .idWait => true
  | .cmpWait => true
  | .dirWait => true
  | _ => false

/-- FSM is at a bit position (10_state.md R19). -/
def Fsm.inLoop : Fsm → Bool
  | .idWait => true
  | .cmpWait => true
  | .dirWait => true
  | _ => false

/-- "P = 8*BYTE + log2(MASK) + 1", with "BYTE 0..7 during the loop" (10_state.md R19). -/
def PassRegs.positioned (p : PassRegs) : Prop :=
  ∃ k : Nat, k < 8 ∧ p.mask = 1#8 <<< k ∧ p.byte.toNat < 8 ∧ p.p.toNat = 8 * p.byte.toNat + k + 1

/-- The request FSM waits for (10_state.md R26); none outside the wait states. -/
def State.awaited (s : State) : Option (BitVec 10) :=
  match s.fsm with
  | .rstWait => some 0x000#10
  | .cmdWait => some 0x3F0#10
  | .idWait => some 0x200#10
  | .cmpWait => some 0x200#10
  | .dirWait => some (if s.pass.dir then 0x101#10 else 0x100#10)
  | _ => none

/-- The invariant of every reachable state. -/
structure State.Inv (s : State) : Prop where
  /-- The ranges of 10_state.md R20. -/
  range : s.inRange = true
  /-- SV_LD is a copy of LD (10_state.md R25). -/
  savedLd : s.saved.ld.toNat ≤ 64
  /-- SV_LFD is a copy of LFD (10_state.md R25). -/
  savedLfd : s.saved.lfd.toNat ≤ 8
  /-- P, BYTE and MASK have their start values until the first bit position (41_search.md R81). -/
  start : s.fsm = .rstWait ∨ s.fsm = .cmdWait → s.pass.p = 1#7 ∧ s.pass.byte = 0#4 ∧ s.pass.mask = 1#8
  /-- P, BYTE and MASK agree at a bit position (10_state.md R19). -/
  position : s.fsm.inLoop = true → s.pass.positioned
  /-- The request FSM waits for is held on PHY_REQ (10_state.md R26, R34). -/
  request : ∀ w : BitVec 10, s.awaited = some w → s.phyReq = w
  /-- In DIR_WAIT the bit of position P is the direction (41_search.md R88). -/
  stored : s.fsm = .dirWait → romBit s.search.rom s.pass.p.toNat = s.pass.dir
  /-- A pass runs only with LDF = 0 (41_search.md R80). -/
  notExhausted : s.fsm.waiting = true → s.search.ldf = false

/-- The requests issued since the last response or reset, oldest first. -/
def requestsSince : List Event → List (BitVec 10)
  | .request w :: rest => requestsSince rest ++ [w]
  | _ => []

/-- The three requests of each of the first `n` bit positions (41_search.md R93), the directions being the bits of ROM. -/
def positionRequests (rom : Rom) : Nat → List (BitVec 10)
  | 0 => []
  | n + 1 => positionRequests rom n ++ [0x200#10, 0x200#10, if romBit rom (n + 1) then 0x101#10 else 0x100#10]

/-- The requests of the pass so far (41_search.md R93): the prefix of the sequence that FSM and P give. -/
def State.expectedRequests (s : State) : List (BitVec 10) :=
  match s.fsm with
  | .rstWait => [0x000#10]
  | .cmdWait => [0x000#10, 0x3F0#10]
  | .idWait => [0x000#10, 0x3F0#10] ++ positionRequests s.search.rom (s.pass.p.toNat - 1) ++ [0x200#10]
  | .cmpWait => [0x000#10, 0x3F0#10] ++ positionRequests s.search.rom (s.pass.p.toNat - 1) ++ [0x200#10, 0x200#10]
  | .dirWait => [0x000#10, 0x3F0#10] ++ positionRequests s.search.rom s.pass.p.toNat
  | _ => []

/-- The trace holds the request sequence of the pass in progress (41_search.md R93), and none in IDLE. -/
def State.RequestsInOrder (s : State) : Prop := requestsSince s.trace = s.expectedRequests

/-- The accumulator has been fed the bytes completed in this pass (60_exceptions.md R136, 40_crc8.md R75). -/
def State.CrcInStep (s : State) : Prop :=
  s.fsm.waiting = true → s.pass.crc = crc8Run s.crc8Table 0 (s.search.rom.toList.take s.pass.byte.toNat)

/-- How many PHY responses a pass can still take (41_search.md R94: at most 194). -/
def State.responsesLeft (s : State) : Nat :=
  match s.fsm with
  | .rstWait => 194
  | .cmdWait => 193
  | .idWait => 192 - 3 * (s.pass.p.toNat - 1)
  | .cmpWait => 191 - 3 * (s.pass.p.toNat - 1)
  | .dirWait => 190 - 3 * (s.pass.p.toNat - 1)
  | _ => 0

/-- Two passes of FIRST or NEXT with LD = 0 that have taken the same path: everything agrees but the bits of ROM at
positions the pass has not written yet (41_search.md R86, 42_session.md R100). -/
structure SamePath (s t : State) : Prop where
  waiting : s.fsm.waiting = true
  cursor : s.search.ld = 0
  modeSearch : s.mode = .search
  same : t = { s with search := { s.search with rom := t.search.rom } }
  written : s.fsm.inLoop = true → ∀ q : Nat, 1 ≤ q → q < s.pass.p.toNat → romBit t.search.rom q = romBit s.search.rom q
  current : s.fsm = .dirWait → romBit t.search.rom s.pass.p.toNat = romBit s.search.rom s.pass.p.toNat

/-- A PHY that answers at this edge, with RST = 0 (70_reset_and_hazards.md R158). -/
def answering (i : Inputs) : Bool := i.phyRspValid && !i.rst

/-- The block accepts a command: IDLE, RST = 0 (10_state.md R32), the registers in their ranges (R20). -/
def State.Accepting (s : State) : Prop := s.inRange = true ∧ s.fsm = .idle ∧ s.inputs.rst = false

/-- The block takes a response in the wait state `f`: RST = 0 (70_reset_and_hazards.md R151), the registers in their
ranges (10_state.md R20). -/
def State.Awaiting (s : State) (f : Fsm) : Prop := s.inRange = true ∧ s.fsm = f ∧ s.inputs.rst = false

/-- The six host commands of the opcode table (30_encoding.md R61). -/
def isCommand : Instr → Bool
  | .phyResetBus => false
  | .phyWriteBit _ => false
  | .phyReadBit => false
  | .phyWriteByte _ => false
  | _ => true

/-- Commands run one after another, each to its own next state (30_encoding.md R70). -/
def execAll : List Instr → State → Result
  | [], s => .next s
  | i :: rest, s =>
    match exec i s with
    | .next t => execAll rest t
    | r => r

/-- The two ids agree at every position before `p`. -/
def sameBefore (a b : Rom) (p : Nat) : Prop := ∀ q : Nat, 1 ≤ q → q < p → romBit a q = romBit b q

/-- "compared bit position 1 first, 0 before 1" (41_search.md R95). -/
def romBefore (a b : Rom) : Prop :=
  ∃ p : Nat, 1 ≤ p ∧ p ≤ 64 ∧ sameBefore a b p ∧ romBit a p = false ∧ romBit b p = true

/-- An id with "a valid CRC and a nonzero family byte" (41_search.md R95). -/
def validId (table : CrcTable) (rom : Rom) : Prop := crc8Run table 0 rom.toList = 0 ∧ rom[0] ≠ 0

/-- "0 is the only index that maps to 0" (40_crc8.md R77): a property of the default table, to be assumed "of the parameter
by name" (93_implementation_defined.md I10). -/
def zeroOnlyAtZero (table : CrcTable) : Prop := ∀ x : Byte, tableEntry table x = 0 ↔ x = 0

/-- Some device leaves the path of `rom` at position `p` on the 1 side, where `rom` has the 0. -/
def branchAt (devices : List Rom) (rom : Rom) (p : Nat) : Prop :=
  romBit rom p = false ∧ ∃ d ∈ devices, sameBefore rom d p ∧ romBit d p = true

/-- SearchState after a pass found an id on a bus: LD is the last position at which a device leaves the path of ROM on the
1 side, and LDF says that there is none (41_search.md R87, R91). -/
structure State.FoundOn (devices : List Rom) (s : State) : Prop where
  member : s.search.rom ∈ devices
  bound : ∀ p : Nat, 1 ≤ p → p ≤ 64 → branchAt devices s.search.rom p → p ≤ s.search.ld.toNat
  cursor : s.search.ld ≠ 0 → branchAt devices s.search.rom s.search.ld.toNat
  last : s.search.ldf = true ↔ s.search.ld = 0

end Sys2Proof.Machine
end

