-- ==== Sys2Proof/Certificates/Slice0/Obligations.lean ====
section
/-! DEFINITION. The statements, each citing the rule of spec/ it formalises. Where a statement says that an instruction
answers a next state, the next state is written out whole, so the same statement says what the instruction leaves alone. -/

open Sys2Proof Sys2Proof.Machine

/-! ## Reset and the step -/

/-- 10_state.md R36: the value of every register and output at `State.reset` and after every edge with RST = 1. -/
def Obligations.ResetRegisterValues : Prop :=
  ∀ t : State, (t = State.reset ∨ ∃ s : State, s.inputs.rst = true ∧ step s = .next t) →
    t.search = { rom := #v[0x00, 0x00, 0x00, 0x00, 0x00, 0x00, 0x00, 0x00], ld := 0, lfd := 0, ldf := false } ∧
    t.pass = { crc := 0x00, p := 1, byte := 0, mask := 0x01#8, lz := 0, idb := false, cmpb := false, dir := false } ∧
    t.mode.code = 0 ∧
    t.saved = { rom := #v[0x00, 0x00, 0x00, 0x00, 0x00, 0x00, 0x00, 0x00], ld := 0, lfd := 0, ldf := false } ∧
    t.vrom = #v[0x00, 0x00, 0x00, 0x00, 0x00, 0x00, 0x00, 0x00] ∧
    t.fsm.code = 0 ∧
    t.rsp = { found := false, illegal := false, crc := 0x00 } ∧
    (t.inputs.rst = false → t.cmdReady = true) ∧
    t.rspValid = false ∧ t.phyReqValid = false

/-- 70_reset_and_hazards.md R151, R152: an edge with RST = 1 is taken from every state and wins over every other
input: what it leaves does not depend on the state before it but for PHY_REQ, which is held (10_state.md R34; the reading
is log entry 10), the parameter, and the model's own record of what was put out. -/
def Obligations.ResetEdgeWinsOverAll : Prop :=
  ∀ s : State, s.inputs.rst = true →
    s.cmdReady = false ∧
    ∃ t, step s = .next t ∧ t.trace = .reset :: s.trace ∧ t.phyReq = s.phyReq ∧
      ∀ (s' t' : State), s'.inputs.rst = true → step s' = .next t' →
        t' =
          { t with
            phyReq := s'.phyReq
            crc8Table := s'.crc8Table
            trace := t'.trace, inputs := t'.inputs, script := t'.script, draws := t'.draws }

/-- A step runs the decoded instruction: a command in IDLE (30_encoding.md R64), in a wait state the outstanding
request once its response has arrived (70_reset_and_hazards.md R153). Around `exec` the step lowers the two pulses
(10_state.md R30, R34) and moves the input levels on. -/
def Obligations.StepRunsDecodedInstruction : Prop :=
  (∀ (s : State) (i : Instr), s.inputs.rst = false → s.fsm = .idle → s.inputs.cmdValid = true →
    decode (.command s.inputs.cmd s.inputs.romIn) = .ok i →
    step s = mapNext (exec i s.beginEdge) State.nextInputs) ∧
  (∀ (s : State) (i : Instr), s.inputs.rst = false → s.fsm ≠ .idle → s.inputs.phyRspValid = true →
    decode (.request s.phyReq) = .ok i →
    step s = mapNext (exec i s.beginEdge) State.nextInputs)

/-- 60_exceptions.md R133: an accepted illegal word answers ILLEGAL = 1, and no other register is written. -/
def Obligations.IllegalWordOnlyAnswers : Prop :=
  ∀ s : State, s.Accepting → s.inputs.cmdValid = true → legalCommand s.inputs.cmd = false →
    step s = .next (State.nextInputs
      { s with
        rsp := { found := false, illegal := true, crc := 0x00 }
        rspValid := true
        phyReqValid := false
        trace := .response 0x0002 .illegalCommand :: s.trace })

/-- 70_reset_and_hazards.md R150, R155, R158 (that such an edge is a step of the model is log entry 4): an edge with
nothing to accept or take leaves every register alone, also with a command presented while CMD_READY = 0; in IDLE also
with a PHY response (R153). -/
def Obligations.QuietEdgeKeepsRegisters : Prop :=
  ∀ s : State, s.inRange = true → s.inputs.rst = false →
    (s.fsm = .idle ∧ s.inputs.cmdValid = false ∨ s.fsm ≠ .idle ∧ s.inputs.phyRspValid = false) →
    step s = .next (State.nextInputs { s with rspValid := false, phyReqValid := false })

/-- 10_state.md R20: in a state that breaks one of the ranges, the next step is a fault (but for RST, R151). -/
def Obligations.OutOfRangeStepFaults : Prop :=
  ∀ s : State, s.inputs.rst = false →
    (64 < s.search.ld.toNat ∨ 8 < s.search.lfd.toNat ∨ 64 < s.pass.lz.toNat ∨ s.pass.p.toNat = 0 ∨
      65 < s.pass.p.toNat ∨ 8 < s.pass.byte.toNat ∨ (∀ k : Nat, s.pass.mask ≠ 1#8 <<< k ∨ 8 ≤ k) ∨
      6 ≤ s.fsm.code.toNat) →
    step s = .fault .outOfRange

/-! ## Encodings -/

/-- 30_encoding.md R60, R64, R67: the decoder reads back every encoded instruction, every operand at every value. -/
def Obligations.DecodeOfEncode : Prop := ∀ i : Instr, decode (encode i) = .ok i

/-- 30_encoding.md R64, R67: a word that decodes is the word of what it decodes to. The value beside it on ROM_IN is
VERIFY's operand (R62); that the encoder puts 0 there for every other command, where R62 says only that ROM_IN is
ignored, is the model's choice (log entry 19, DESIGN CHOICE). -/
def Obligations.EncodeOfDecode : Prop :=
  (∀ (cmd : BitVec 32) (romIn : BitVec 64) (i : Instr), decode (.command cmd romIn) = .ok i →
    encode i = .command cmd (if i = .verify romIn then romIn else 0)) ∧
  (∀ (w : BitVec 10) (i : Instr), decode (.request w) = .ok i → encode i = .request w)

/-- 30_encoding.md R63: a command word is rejected, and not legal, exactly when one of the five conditions holds. -/
def Obligations.IllegalWordsAreTheListed : Prop :=
  ∀ (cmd : BitVec 32) (romIn : BitVec 64),
    (legalCommand cmd = false ↔ ¬ ∃ i, decode (.command cmd romIn) = .ok i) ∧
    (legalCommand cmd = false ↔
      ((cmd.extractLsb' 0 3 = 0b000 ∨ cmd.extractLsb' 0 3 = 0b111) ∨
        cmd.extractLsb' 3 5 ≠ 0 ∨ cmd.extractLsb' 24 8 ≠ 0 ∨
        (cmd.extractLsb' 16 8 ≠ 0 ∧ cmd.extractLsb' 0 3 ≠ 0b110) ∨
        (cmd.extractLsb' 8 8 ≠ 0 ∧ cmd.extractLsb' 0 3 ≠ 0b100 ∧ cmd.extractLsb' 0 3 ≠ 0b110)))

/-- Words of 95_test_vectors.md V3.1 and of 30_encoding.md R67, written out. -/
def Obligations.ListedWordsDecode : Prop :=
  decode (.command 0x00000001 0) = .ok .first ∧
  decode (.command 0x00000002 0) = .ok .next ∧
  decode (.command 0x00000003 0x05000804C3B2A110) = .ok (.verify 0x05000804C3B2A110) ∧
  decode (.command 0x00002804 0) = .ok (.targetSetup 0x28) ∧
  decode (.command 0x00000005 0) = .ok .familySkipSetup ∧
  decode (.command 0x00BC1C06 0) = .ok (.crcStep 0xBC 0x1C) ∧
  decode (.command 0x00000007 0) = .error .reservedOp ∧
  decode (.command 0x00010002 0) = .error .operandB ∧
  decode (.request 0x000#10) = .ok .phyResetBus ∧
  decode (.request 0x101#10) = .ok (.phyWriteBit true) ∧
  decode (.request 0x200#10) = .ok .phyReadBit ∧
  decode (.request 0x3F0#10) = .ok (.phyWriteByte 0xF0)

/-- 30_encoding.md R69: the table of the assembly language, an operand too large for its field being an error. Where the
table says that ROM_IN is ignored, the value 0 is the model's choice (log entry 19, DESIGN CHOICE). -/
def Obligations.AssemblyTable : Prop :=
  ∀ table : CrcTable,
    (assembleLine table .first).map (List.map encode) = some [.command 0x00000001 0] ∧
    (assembleLine table .next).map (List.map encode) = some [.command 0x00000002 0] ∧
    (assembleLine table .familySkipSetup).map (List.map encode) = some [.command 0x00000005 0] ∧
    (∀ rom : Nat, (assembleLine table (.verify rom)).map (List.map encode) =
      if rom < 2 ^ 64 then some [.command 0x00000003 (BitVec.ofNat 64 rom)] else none) ∧
    (∀ fam : Nat, (assembleLine table (.targetSetup fam)).map (List.map encode) =
      if fam < 256 then some [.command (0x00000004 ||| BitVec.ofNat 32 fam <<< 8) 0] else none) ∧
    (∀ acc byte : Nat, (assembleLine table (.crcStep acc byte)).map (List.map encode) =
      if acc < 256 ∧ byte < 256 then
        some [.command (0x00000006 ||| BitVec.ofNat 32 byte <<< 8 ||| BitVec.ofNat 32 acc <<< 16) 0]
      else none)

/-! ## The ROM id -/

/-- 20_memory.md R42: bit position p is bit (p-1) mod 8 of byte (p-1) div 8, and writing it changes that bit alone; a
pass starts at position 1 and its MASK and BYTE go with P from each position to the next. -/
def Obligations.RomBitPositions : Prop :=
  (∀ (rom : Rom) (p : Nat), 1 ≤ p → (hp : p ≤ 64) →
    romBit rom p = (rom[(p - 1) / 8]'(by omega)).getLsbD ((p - 1) % 8) ∧
    ∀ (b : Bool) (q : Nat), 1 ≤ q → q ≤ 64 →
      romBit (setRomBit rom p b) q = if q = p then b else romBit rom q) ∧
  (∀ s : State, s.passInit.pass.positioned ∧ s.passInit.pass.byte = 0 ∧ s.passInit.pass.mask = 0x01#8) ∧
  (∀ (p : PassRegs) (table : CrcTable) (rom : Rom), p.positioned →
    ∃ q, p.advance table rom = some q ∧ q.p.toNat = p.p.toNat + 1 ∧
      (p.mask ≠ 0x80#8 → q.mask = p.mask <<< 1 ∧ q.byte = p.byte) ∧
      (p.mask = 0x80#8 → q.mask = 0x01#8 ∧ q.byte.toNat = p.byte.toNat + 1) ∧
      (q.byte.toNat < 8 → q.positioned))

/-- 20_memory.md R43: byte k is bits 8k+7:8k of the id on ROM_OUT and on ROM_IN, and bit position p is bit p-1. -/
def Obligations.RomPacking : Prop :=
  (∀ (s : State) (k : Nat) (hk : k < 8), s.romOut.extractLsb' (8 * k) 8 = s.search.rom[k]) ∧
  (∀ (x : BitVec 64) (k : Nat) (hk : k < 8), (unpackRom x)[k] = x.extractLsb' (8 * k) 8) ∧
  (∀ (s : State) (p : Nat), 1 ≤ p → p ≤ 64 → s.romOut.getLsbD (p - 1) = romBit s.search.rom p) ∧
  (∀ rom : Rom, unpackRom (packRom rom) = rom) ∧
  (∀ x : BitVec 64, packRom (unpackRom x) = x) ∧
  packRom #v[0x10, 0xA1, 0xB2, 0xC3, 0x04, 0x08, 0x00, 0x05] = 0x05000804C3B2A110

/-- 41_search.md R88, 20_memory.md R45: the masked write of ROM[BYTE] is the write of bit position P, where P, BYTE
and MASK agree as 10_state.md R19 says. -/
def Obligations.MaskedWriteIsBitWrite : Prop :=
  ∀ (p : PassRegs) (rom : Rom) (d : Bool), p.positioned →
    storeBit rom p.byte.toNat p.mask d = some (setRomBit rom p.p.toNat d)

/-! ## The CRC-8 engine

CRC8_TABLE is a parameter (00_scope.md R8), held in `State.crc8Table`. A statement about every state holds for every
table; one that needs a property of the default table assumes it of the parameter by name
(93_implementation_defined.md I10). -/

/-- 20_memory.md R41, R52: "No command can write TABLE", and nothing else does, in any state and under any input. -/
def Obligations.TableIsReadOnly : Prop :=
  (∀ (s t : State) (i : Instr), exec i s = .next t → t.crc8Table = s.crc8Table) ∧
  (∀ s t : State, step s = .next t → t.crc8Table = s.crc8Table)

/-- 40_crc8.md R72, of the parameter's default, which the machine has at reset (log entry 5, PRESUMED): every entry is
generated by the reflected polynomial, and the step is the bit-serial CRC. -/
def Obligations.TableIsGenerated : Prop :=
  (∀ i : Byte, tableEntry State.reset.crc8Table i = crcGenerate i) ∧
  (∀ acc byte : Byte, crc8Step State.reset.crc8Table acc byte = crcSerial acc byte)

/-- 40_crc8.md R77, of the parameter's default, which the machine has at reset (log entry 5, PRESUMED): the properties
the spec derives. -/
def Obligations.TableProperties : Prop :=
  ∀ T : Byte → Byte, T = tableEntry State.reset.crc8Table →
    T 0 = 0 ∧
    Function.Bijective T ∧
    zeroOnlyAtZero State.reset.crc8Table ∧
    (∀ a b : Byte, T (a ^^^ b) = T a ^^^ T b) ∧
    T 0x01 = 0x5E ∧ T 0x02 = 0xBC ∧ T 0x04 = 0x61 ∧ T 0x08 = 0xC2 ∧
    T 0x10 = 0x9D ∧ T 0x20 = 0x23 ∧ T 0x40 = 0x46 ∧ T 0x80 = 0x8C ∧
    (∀ x : Byte, T x = (List.range 8).foldl (fun a k => if x.getLsbD k then a ^^^ T (1#8 <<< k) else a) 0)

/-- 40_crc8.md R76, for every table that is 0 at 0 only (the default is, log entry 5): over 8 bytes the accumulator is 0
exactly when the last byte is the CRC of the first seven. -/
def Obligations.CrcValidation : Prop :=
  ∀ (table : CrcTable) (bs : List Byte) (b7 : Byte), zeroOnlyAtZero table → bs.length = 7 →
    (crc8Run table 0 (bs ++ [b7]) = 0 ↔ b7 = crc8Run table 0 bs)

/-- 30_encoding.md R70: the commands CRC_CHECK expands to, run one after another, leave in RSP_CRC the accumulator over
all the bytes. That PHY_REQ keeps its word is the model's reading (log entry 10, DEDUCED). -/
def Obligations.CrcCheckAnswersTheRun : Prop :=
  ∀ (s : State) (bs : List Byte), s.Accepting → bs ≠ [] →
    ∃ t, execAll (crcCheckCommands s.crc8Table 0 bs) s = .next t ∧ t.rsp.crc = crc8Run s.crc8Table 0 bs ∧
      t.search = s.search ∧ t.pass = s.pass ∧ t.phyReq = s.phyReq ∧ t.fsm = .idle

/-! ## The host commands

The next states are written out whole, with the model's own field, the trace (log entry 11). PHY_REQ keeps its word where
no request is issued (log entry 10). -/

/-- 30_encoding.md R66, R68: the fields of RSP and of PHY_RSP = {ERR, BIT}, and the levels a packed response presents. -/
def Obligations.ResponseWordFields : Prop :=
  (∀ s : State,
    s.rspWord.getLsbD 0 = s.rsp.found ∧ s.rspWord.getLsbD 1 = s.rsp.illegal ∧
    s.rspWord.extractLsb' 2 6 = 0 ∧ s.rspWord.extractLsb' 8 8 = s.rsp.crc) ∧
  (∀ i : Inputs, (phyRspWord i).getLsbD 0 = i.phyBit ∧ (phyRspWord i).getLsbD 1 = i.phyErr) ∧
  (∀ (i : Inputs) (w : BitVec 2),
    phyRspWord (withPhyRsp i w) = w ∧
    withPhyRsp i w = { i with phyRspValid := true, phyBit := w.getLsbD 0, phyErr := w.getLsbD 1 })

/-- 40_crc8.md R74: CRC_STEP answers TABLE[B xor A], writes only the response registers, reads its operands from B and
A, and depends on their xor alone. The two values are of the parameter's default (log entry 5, PRESUMED). -/
def Obligations.CrcStepAnswers : Prop :=
  (∀ (s : State) (acc byte : Byte), s.Accepting →
    exec (.crcStep acc byte) s = .next
      { s with
        rsp := { found := false, illegal := false, crc := tableEntry s.crc8Table (acc ^^^ byte) }
        rspValid := true
        trace := .response (tableEntry s.crc8Table (acc ^^^ byte) ++ 0x00#8) .none :: s.trace }) ∧
  (∀ (cmd : BitVec 32) (romIn : BitVec 64), cmd &&& 0xFF0000FF = 0x00000006 →
    decode (.command cmd romIn) = .ok (.crcStep (cmd.extractLsb' 16 8) (cmd.extractLsb' 8 8))) ∧
  (∀ (table : CrcTable) (a b : Byte),
    crc8Step table a b = crc8Step table b a ∧ crc8Step table a b = crc8Step table 0 (a ^^^ b)) ∧
  (∀ a : Byte, crc8Step Config.crc8Table a a = 0x00) ∧
  crc8Step Config.crc8Table 0x00 0x02 = 0xBC

/-- 42_session.md R100 with 41_search.md R80, R81: FIRST clears LD, LFD and LDF and starts a pass. -/
def Obligations.FirstStartsPass : Prop :=
  ∀ s : State, s.Accepting →
    exec .first s = .next
      { s with
        search := { s.search with ld := 0, lfd := 0, ldf := false }
        mode := .search
        pass := { s.pass with crc := 0x00, lz := 0, p := 1, byte := 0, mask := 0x01#8 }
        fsm := .rstWait
        phyReq := 0x000#10
        phyReqValid := true
        trace := .request 0x000#10 :: s.trace }

/-- 42_session.md R101 with 41_search.md R80, R81: NEXT starts a pass from the SearchState as it is, or with LDF = 1
answers not-found at once, with no PHY request and no register written but MODE and the response. -/
def Obligations.NextContinuesOrEnds : Prop :=
  ∀ s : State, s.Accepting →
    (s.search.ldf = false →
      exec .next s = .next
        { s with
          mode := .search
          pass := { s.pass with crc := 0x00, lz := 0, p := 1, byte := 0, mask := 0x01#8 }
          fsm := .rstWait
          phyReq := 0x000#10
          phyReqValid := true
          trace := .request 0x000#10 :: s.trace }) ∧
    (s.search.ldf = true →
      exec .next s = .next
        { s with
          mode := .search
          rsp := { found := false, illegal := false, crc := 0x00 }
          rspValid := true
          trace := .response 0x0000 .exhausted :: s.trace })

/-- 42_session.md R102 with 41_search.md R80, R81: VERIFY saves SearchState, takes its operand into VROM and ROM,
forces LD = 64 and LDF = 0, and starts a pass, whatever LDF was. -/
def Obligations.VerifyStartsPass : Prop :=
  ∀ (s : State) (rom : BitVec 64), s.Accepting →
    exec (.verify rom) s = .next
      { s with
        saved := s.search
        vrom := unpackRom rom
        search := { rom := unpackRom rom, ld := 64, lfd := s.search.lfd, ldf := false }
        mode := .verify
        pass := { s.pass with crc := 0x00, lz := 0, p := 1, byte := 0, mask := 0x01#8 }
        fsm := .rstWait
        phyReq := 0x000#10
        phyReqValid := true
        trace := .request 0x000#10 :: s.trace }

/-- 42_session.md R103: TARGET_SETUP, for every family code. -/
def Obligations.TargetSetupWrites : Prop :=
  ∀ (s : State) (a : Byte), s.Accepting →
    exec (.targetSetup a) s = .next
      { s with
        search := { rom := #v[a, 0x00, 0x00, 0x00, 0x00, 0x00, 0x00, 0x00], ld := 64, lfd := 0, ldf := false }
        rsp := { found := false, illegal := false, crc := 0x00 }
        rspValid := true
        trace := .response 0x0000 .none :: s.trace }

/-- 42_session.md R104: FAMILY_SKIP_SETUP; LDF is set if the new LD is 0 and is never cleared. -/
def Obligations.FamilySkipWrites : Prop :=
  ∀ s : State, s.Accepting →
    exec .familySkipSetup s = .next
      { s with
        search :=
          { rom := s.search.rom, ld := s.search.lfd, lfd := 0,
            ldf := if s.search.lfd = 0 then true else s.search.ldf }
        rsp := { found := false, illegal := false, crc := 0x00 }
        rspValid := true
        trace := .response 0x0000 .none :: s.trace }

/-- 42_session.md R104, 20_memory.md R54: a second FAMILY_SKIP_SETUP right after a first leaves LD = 0 and LDF = 1; a
second TARGET_SETUP with the same operand changes nothing but the trace. -/
def Obligations.SetupCommandsTwice : Prop :=
  (∀ s t : State, s.Accepting → exec .familySkipSetup s = .next t →
    ∃ u, exec .familySkipSetup t = .next u ∧ u.search = { t.search with ld := 0, lfd := 0, ldf := true }) ∧
  (∀ (s t : State) (a : Byte), s.Accepting → exec (.targetSetup a) s = .next t →
    ∃ u, exec (.targetSetup a) t = .next u ∧ u = { t with trace := .response 0x0000 .none :: t.trace })

/-- 42_session.md R101, 70_reset_and_hazards.md R154: with LD = LFD = LDF = 0, NEXT does exactly what FIRST does. -/
def Obligations.NextIsFirstFromInitial : Prop :=
  ∀ s : State, s.search.ld = 0 → s.search.lfd = 0 → s.search.ldf = false → exec .next s = exec .first s

/-- 70_reset_and_hazards.md R155: a command presented while CMD_READY = 0 is not accepted and changes nothing (log
entry 13). -/
def Obligations.CommandWhileBusyIgnored : Prop :=
  ∀ (s : State) (i : Instr), isCommand i = true → s.inRange = true → s.cmdReady = false → exec i s = .next s

/-! ## The PHY requests: the steps of a pass

`exec` of a request row is the step in which the request's response arrives (log entry 1). -/

/-- 41_search.md R82: the response to RESET_BUS. -/
def Obligations.ResetBusResponse : Prop :=
  ∀ s : State, s.Awaiting .rstWait →
    exec .phyResetBus s = .next
      (if s.inputs.phyErr = true then State.fail s .phyError
       else if s.inputs.phyBit = false then State.fail s .busResetFailure
       else
        { s with
          fsm := .cmdWait
          phyReq := 0x3F0#10
          phyReqValid := true
          trace := .request 0x3F0#10 :: s.trace })

/-- 41_search.md R83: the response to WRITE_BYTE, BIT ignored. The block issues WRITE_BYTE of 0xF0 only (30_encoding.md
R67); that the response to any other byte is taken in the same way is the model's choice (log entry 1, DEDUCED). -/
def Obligations.WriteByteResponse : Prop :=
  ∀ (s : State) (v : Byte), s.Awaiting .cmdWait →
    exec (.phyWriteByte v) s = .next
      (if s.inputs.phyErr = true then State.fail s .phyError
       else
        { s with
          fsm := .idWait
          phyReq := 0x200#10
          phyReqValid := true
          trace := .request 0x200#10 :: s.trace })

/-- 41_search.md R84: the response to the first READ_BIT of a position. -/
def Obligations.FirstReadResponse : Prop :=
  ∀ s : State, s.Awaiting .idWait →
    exec .phyReadBit s = .next
      (if s.inputs.phyErr = true then State.fail s .phyError
       else
        { s with
          pass := { s.pass with idb := s.inputs.phyBit }
          fsm := .cmpWait
          phyReq := 0x200#10
          phyReqValid := true
          trace := .request 0x200#10 :: s.trace })

/-- 41_search.md R85 to R88: the response to the second READ_BIT of a position. With both bits 1 the pass fails and
ROM is not written; else the direction is chosen, recorded if it is the 0 of a discrepancy, stored in ROM and written
out. -/
def Obligations.SecondReadResponse : Prop :=
  ∀ s : State, s.Awaiting .cmpWait → (hb : s.pass.byte.toNat < 8) →
    (s.inputs.phyErr = true →
      exec .phyReadBit s = .next (State.fail s .phyError)) ∧
    (s.inputs.phyErr = false → s.pass.idb = true → s.inputs.phyBit = true →
      exec .phyReadBit s = .next
        (State.fail { s with pass := { s.pass with cmpb := true } } .busProtocolViolation)) ∧
    (s.inputs.phyErr = false → ¬(s.pass.idb = true ∧ s.inputs.phyBit = true) →
      ∀ d : Bool,
        d = (if s.pass.idb ≠ s.inputs.phyBit then s.pass.idb
             else if s.pass.p.toNat < s.search.ld.toNat then romBit s.search.rom s.pass.p.toNat
             else if s.pass.p.toNat = s.search.ld.toNat then true else false) →
        exec .phyReadBit s = .next
          { s with
            search :=
              { s.search with
                rom := s.search.rom.set s.pass.byte.toNat
                  (if d = true then s.search.rom[s.pass.byte.toNat] ||| s.pass.mask
                   else s.search.rom[s.pass.byte.toNat] &&& ~~~s.pass.mask)
                lfd := if (s.pass.idb = false ∧ s.inputs.phyBit = false ∧ d = false) ∧ s.pass.p.toNat ≤ 8 then s.pass.p
                  else s.search.lfd }
            pass :=
              { s.pass with
                cmpb := s.inputs.phyBit
                dir := d
                lz := if s.pass.idb = false ∧ s.inputs.phyBit = false ∧ d = false then s.pass.p else s.pass.lz }
            fsm := .dirWait
            phyReq := (if d = true then 0x101#10 else 0x100#10)
            phyReqValid := true
            trace := .request (if d = true then 0x101#10 else 0x100#10) :: s.trace })

/-- 41_search.md R86, corner cases: with LD = 0 every discrepancy takes 0; with LD = 64 one at P <= 63 replays ROM and
one at P = 64 takes 1. -/
def Obligations.DirectionCornerCases : Prop :=
  ∀ s : State, s.pass.idb = false → s.pass.cmpb = false → 1 ≤ s.pass.p.toNat → s.pass.p.toNat ≤ 64 →
    (s.search.ld = 0 → s.chooseDirection = false) ∧
    (s.search.ld = 64 →
      s.chooseDirection = if s.pass.p.toNat ≤ 63 then romBit s.search.rom s.pass.p.toNat else true)

/-- 41_search.md R89, 40_crc8.md R75: the response to WRITE_BIT, BIT ignored: the counters advance, at the end of a byte
the byte is fed to the CRC, and after the eighth byte the pass is evaluated. The block waits in DIR_WAIT for WRITE_BIT of
DIR only; that the response to the other bit is taken in the same way is the model's choice (log entry 1, DEDUCED). -/
def Obligations.WriteBitResponse : Prop :=
  ∀ (s : State) (d : Bool), s.Awaiting .dirWait → (hb : s.pass.byte.toNat < 8) →
    (s.inputs.phyErr = true →
      exec (.phyWriteBit d) s = .next (State.fail s .phyError)) ∧
    (s.inputs.phyErr = false → s.pass.mask ≠ 0x80#8 →
      exec (.phyWriteBit d) s = .next
        { s with
          pass := { s.pass with p := s.pass.p + 1, mask := s.pass.mask <<< 1 }
          fsm := .idWait
          phyReq := 0x200#10
          phyReqValid := true
          trace := .request 0x200#10 :: s.trace }) ∧
    (s.inputs.phyErr = false → s.pass.mask = 0x80#8 →
      ∀ pass : PassRegs,
        pass =
          { s.pass with
            p := s.pass.p + 1
            crc := tableEntry s.crc8Table (s.pass.crc ^^^ s.search.rom[s.pass.byte.toNat])
            byte := s.pass.byte + 1
            mask := 0x01#8 } →
        exec (.phyWriteBit d) s = .next
          (if s.pass.byte.toNat = 7 then State.evaluate { s with pass := pass }
           else
            { s with
              pass := pass
              fsm := .idWait
              phyReq := 0x200#10
              phyReqValid := true
              trace := .request 0x200#10 :: s.trace }))

/-- 41_search.md R90, R91: CRC first, then the family byte, then success. -/
def Obligations.EvaluationOrder : Prop :=
  ∀ s : State,
    (s.pass.crc ≠ 0 → s.evaluate = s.fail .checksumMismatch) ∧
    (s.pass.crc = 0 → s.search.rom[0] = 0 → s.evaluate = s.fail .invalidRom) ∧
    (s.pass.crc = 0 → s.search.rom[0] ≠ 0 →
      s.evaluate = State.finish
        { s with
          search :=
            { s.search with
              ld := s.pass.lz
              ldf := if s.pass.lz = 0 then true else s.search.ldf } }
        true .none)

/-- 41_search.md R92: the end of FIRST and NEXT, and of VERIFY. -/
def Obligations.FinishAnswers : Prop :=
  ∀ (s : State) (found : Bool) (l : Label),
    (s.mode = .search →
      s.finish found l =
        { s with
          rsp := { found := found, illegal := false, crc := 0x00 }
          rspValid := true
          trace := .response (if found = true then 0x0001 else 0x0000) l :: s.trace
          fsm := .idle }) ∧
    (s.mode = .verify → ∀ m : Bool, m = decide (found = true ∧ s.search.rom = s.vrom) →
      s.finish found l =
        { s with
          search := s.saved
          rsp := { found := m, illegal := false, crc := 0x00 }
          rspValid := true
          trace := .response (if m = true then 0x0001 else 0x0000) l :: s.trace
          fsm := .idle })

/-- 60_exceptions.md R131 with 41_search.md R92: the failure procedure, in FIRST and NEXT and in VERIFY. It writes LD,
LFD and LDF only, or for VERIFY restores SearchState; the answer is not-found, whatever the cause. -/
def Obligations.FailureProcedure : Prop :=
  ∀ (s : State) (cause : Label),
    (s.mode = .search →
      s.fail cause =
        { s with
          search := { rom := s.search.rom, ld := 0, lfd := 0, ldf := false }
          rsp := { found := false, illegal := false, crc := 0x00 }
          rspValid := true
          trace := .response 0x0000 cause :: s.trace
          fsm := .idle }) ∧
    (s.mode = .verify →
      s.fail cause =
        { s with
          search := s.saved
          rsp := { found := false, illegal := false, crc := 0x00 }
          rspValid := true
          trace := .response 0x0000 cause :: s.trace
          fsm := .idle })

/-- 60_exceptions.md R135: a response with ERR = 1 is PHY_ERROR whatever its BIT, in every wait state, and writes no
register of the pass. (Bits and bytes other than the ones issued: log entry 1.) -/
def Obligations.ErrorComesFirst : Prop :=
  ∀ (s : State) (i : Instr) (f : Fsm), s.Awaiting f → s.inputs.phyErr = true →
    (i = .phyResetBus ∧ f = .rstWait ∨ (∃ v, i = .phyWriteByte v) ∧ f = .cmdWait ∨
      i = .phyReadBit ∧ (f = .idWait ∨ f = .cmpWait) ∨ (∃ d, i = .phyWriteBit d) ∧ f = .dirWait) →
    exec i s = .next (State.fail s .phyError)

/-- 70_reset_and_hazards.md R153: a response while FSM is IDLE changes no register, whatever request it answers. -/
def Obligations.ResponseInIdleIgnored : Prop :=
  ∀ (s : State) (i : Instr), isCommand i = false → s.inRange = true → s.fsm = .idle → exec i s = .next s

/-- The model's choice (log entry 8) for 93_implementation_defined.md I4, "no move": a response to a request other
than the one FSM waits for is a fault. -/
def Obligations.MismatchedResponseFaults : Prop :=
  ∀ (s : State) (i : Instr) (f : Fsm), s.Awaiting f → f ≠ .idle →
    (i = .phyResetBus ∧ f ≠ .rstWait ∨ (∃ v, i = .phyWriteByte v) ∧ f ≠ .cmdWait ∨
      i = .phyReadBit ∧ f ≠ .idWait ∧ f ≠ .cmpWait ∨ (∃ d, i = .phyWriteBit d) ∧ f ≠ .dirWait) →
    exec i s = .fault .requestMismatch

/-! ## Invariants of every step -/

/-- 10_state.md R19, R20, R26 at reset, with the request sequence (41_search.md R93) and the accumulator (40_crc8.md
R75). -/
def Obligations.InvariantAtReset : Prop :=
  State.reset.Inv ∧ State.reset.RequestsInOrder ∧ State.reset.CrcInStep

/-- 10_state.md R19, R20, R26, 41_search.md R80, R88: every step keeps the invariant. -/
def Obligations.InvariantKept : Prop := ∀ s t : State, s.Inv → step s = .next t → t.Inv

/-- 10_state.md R20, 20_memory.md R41, 70_reset_and_hazards.md R160: from a state that meets the invariant every step,
under every input, answers a next state: no fault can be reached. -/
def Obligations.NoFaultUnderInvariant : Prop := ∀ s : State, s.Inv → ∃ t, step s = .next t

/-- 41_search.md R93: every step keeps the request sequence: the requests of a pass so far are the prefix of `0x000`,
`0x3F0`, then for each position `0x200`, `0x200`, `0x100 + d(p)`. -/
def Obligations.RequestSequenceKept : Prop :=
  ∀ s t : State, s.Inv → s.RequestsInOrder → step s = .next t → t.RequestsInOrder

/-- 41_search.md R93, 70_reset_and_hazards.md R161: a pass in progress has issued 195 requests less the responses it
can still take, and at the response that ends position 64 exactly 194. -/
def Obligations.RequestCount : Prop :=
  ∀ s : State, s.Inv → s.RequestsInOrder → s.fsm.waiting = true →
    (requestsSince s.trace).length + s.responsesLeft = 195 ∧
    (s.fsm = .dirWait → s.pass.p = 64 → (requestsSince s.trace).length = 194)

/-- 40_crc8.md R75, 60_exceptions.md R136: every step keeps the accumulator equal to the CRC over the bytes completed.
-/
def Obligations.AccumulatorKept : Prop :=
  ∀ s t : State, s.Inv → s.CrcInStep → step s = .next t → t.CrcInStep

/-- 42_session.md R105, R102, 41_search.md R90: a pass that answers FOUND = 1 leaves in ROM (for VERIFY: had in VROM)
an id whose CRC over 8 bytes is 0 and whose family byte is not 0. -/
def Obligations.FoundIdIsValid : Prop :=
  ∀ s t : State, s.Inv → s.CrcInStep → s.fsm.waiting = true → s.inputs.rst = false → step s = .next t →
    t.rspValid = true → t.rsp.found = true →
    ∀ id : Rom, id = (match s.mode with | .search => t.search.rom | .verify => s.vrom) →
      crc8Run s.crc8Table 0 id.toList = 0 ∧ id[0] ≠ 0

/-- 42_session.md R102, 60_exceptions.md R137: while a VERIFY is in progress its save area and VROM are kept, and the
step that answers it restores SearchState from them, on every exit path. -/
def Obligations.VerifyRestores : Prop :=
  ∀ s t : State, s.Inv → s.fsm.waiting = true → s.mode = .verify → s.inputs.rst = false → step s = .next t →
    t.saved = s.saved ∧ t.vrom = s.vrom ∧ t.mode = .verify ∧
    (t.fsm.waiting = true ∧ t.rspValid = false ∨
      t.fsm = .idle ∧ t.rspValid = true ∧ t.search = s.saved)

/-- 42_session.md R100, 41_search.md R86: with LD = 0 a pass does not depend on what ROM held before: two passes that
differ only in bits of ROM not yet written put out the same, and if the id is found they end in the same state. -/
def Obligations.PassIgnoresOldRom : Prop :=
  ∀ s t s' : State, s.Inv → SamePath s t → step s = .next s' →
    ∃ t', step t = .next t' ∧
      t'.trace = s'.trace ∧ t'.rsp = s'.rsp ∧ t'.fsm = s'.fsm ∧ t'.phyReq = s'.phyReq ∧
      (s'.fsm.waiting = true → SamePath s' t') ∧
      (s'.fsm = .idle → s'.rsp.found = true → t' = s')

/-- 41_search.md R94: each response taken ends the command or brings its end one response nearer. -/
def Obligations.EachResponseBringsTheEndNearer : Prop :=
  ∀ s t : State, s.Inv → s.fsm.waiting = true → s.inputs.rst = false → s.inputs.phyRspValid = true →
    step s = .next t →
    1 ≤ s.responsesLeft ∧ s.responsesLeft ≤ 194 ∧
    (t.fsm = .idle ∧ t.rspValid = true ∨
      t.fsm.waiting = true ∧ t.rspValid = false ∧ t.responsesLeft + 1 = s.responsesLeft)

/-- 41_search.md R94, 70_reset_and_hazards.md R158: under a PHY that answers at every edge, with RST = 0, a pass is
over within 194 edges. -/
def Obligations.PassEndsWithin194 : Prop :=
  ∀ s : State, s.Inv → s.fsm.waiting = true → answering s.inputs = true →
    (∀ i ∈ s.script, answering i = true) → 193 ≤ s.script.length →
    ∃ (k : Nat) (t : State), k ≤ 194 ∧ Host.Core.run Sys2Proof.core k s = .next t ∧ t.fsm = .idle ∧ t.rspValid = true

/-- 42_session.md R101 (exhaustion monotonicity): in IDLE with LDF = 1, at every edge without RST, FIRST, TARGET_SETUP or
VERIFY, LDF stays 1 and no PHY request is issued. That PHY_REQ keeps its word there, where no request is outstanding, is
the model's reading (log entry 10, DEDUCED). -/
def Obligations.ExhaustionIsKept : Prop :=
  ∀ s t : State, s.Inv → s.fsm = .idle → s.search.ldf = true → s.inputs.rst = false → step s = .next t →
    (s.inputs.cmdValid = true → ∀ i, decode (.command s.inputs.cmd s.inputs.romIn) = .ok i →
      i ≠ .first ∧ (∀ a, i ≠ .targetSetup a) ∧ (∀ r, i ≠ .verify r)) →
    t.search.ldf = true ∧ t.fsm = .idle ∧ t.phyReq = s.phyReq ∧ t.phyReqValid = false ∧
      t.rsp.found = (s.rsp.found && !t.rspValid)

/-- 10_state.md R30, 70_reset_and_hazards.md R155: a step raises RSP_VALID exactly when it ends a command: one
accepted in IDLE that starts no pass, or a pass in progress. Otherwise the response registers keep their values. -/
def Obligations.OneResponsePerCommand : Prop :=
  ∀ s t : State, s.Inv → s.inputs.rst = false → step s = .next t →
    (t.rspValid = true ↔
      (s.fsm = .idle ∧ s.inputs.cmdValid = true ∧ t.fsm = .idle) ∨ (s.fsm.waiting = true ∧ t.fsm = .idle)) ∧
    (t.rspValid = false → t.rsp = s.rsp) ∧
    (t.rspValid = true → ∃ l, t.trace = .response t.rspWord l :: s.trace)

/-- 30_encoding.md R67: "The block issues only these five words", one at most in a step; the request FSM waits for is
then on PHY_REQ, "held stable until the response arrives" (10_state.md R34). A step that issues no request keeps the word,
also past its response and over RST (log entry 10, DEDUCED). -/
def Obligations.OnlyFiveRequests : Prop :=
  ∀ s t : State, s.Inv → step s = .next t →
    (t.phyReqValid = true → t.fsm.waiting = true) ∧
    (t.phyReqValid = false → t.phyReq = s.phyReq) ∧
    (t.fsm.waiting = true →
      t.awaited = some t.phyReq ∧ t.phyReq ∈ [0x000#10, 0x100#10, 0x101#10, 0x200#10, 0x3F0#10]) ∧
    (t.fsm.waiting = true ↔ t.fsm ≠ .idle)

/-- 60_exceptions.md R131, R132, R134: a pass of FIRST or NEXT that does not find an id answers 0x0000 with the label of
a failure, leaves LD = LFD = LDF = 0 and, in that step, ROM as it was. A pass that does answers 0x0001 with no failure and
leaves LD = LZ, LFD as it was, and LDF = 1 exactly where LZ = 0 (41_search.md R91). -/
def Obligations.FailedPassLeavesInitial : Prop :=
  ∀ s t : State, s.Inv → s.fsm.waiting = true → s.mode = .search → s.inputs.rst = false → step s = .next t →
    t.fsm = .idle →
    ∃ l, t.trace = .response t.rspWord l :: s.trace ∧ t.search.rom = s.search.rom ∧
      (t.rsp.found = false ∧ l.isFailure = true ∧ t.rspWord = 0x0000 ∧
          t.search.ld = 0 ∧ t.search.lfd = 0 ∧ t.search.ldf = false ∨
        t.rsp.found = true ∧ l = .none ∧ t.rspWord = 0x0001 ∧
          t.search.ld = s.pass.lz ∧ t.search.lfd = s.search.lfd ∧ (t.search.ldf = true ↔ s.pass.lz = 0))

/-- 60_exceptions.md R134: which outcome label a response carries: a pass ends with NONE or a failure; in IDLE only an
illegal word carries ILLEGAL_COMMAND, only NEXT with LDF = 1 EXHAUSTED, and the commands that run no pass carry NONE.
-/
def Obligations.OutcomesByCommand : Prop :=
  ∀ (s t : State) (w : BitVec 16) (l : Label), s.Inv → s.inputs.rst = false → step s = .next t →
    t.trace = .response w l :: s.trace →
    (s.fsm.waiting = true → l = .none ∨ l.isFailure = true) ∧
    (s.fsm = .idle →
      s.inputs.cmdValid = true ∧
      match decode (.command s.inputs.cmd s.inputs.romIn) with
      | .error _ => l = .illegalCommand
      | .ok .next => l = .exhausted ∧ s.search.ldf = true
      | .ok (.targetSetup _) => l = .none
      | .ok .familySkipSetup => l = .none
      | .ok (.crcStep _ _) => l = .none
      | .ok _ => False)

/-! ## What the traversal computes, on a wired-AND bus

The bus is the model's `Bus` (log entry 17, PRESUMED): the spec takes it from general knowledge
(93_implementation_defined.md G3), and a PHY need not behave like it. -/

/-- 41_search.md R95 on the model's bus (log entry 17): FIRST finds the least id, and leaves the cursor of an
enumeration. -/
def Obligations.FirstFindsLeastId : Prop :=
  ∀ (s : State) (b : Bus), s.Inv → s.fsm = .idle → b.devices ≠ [] → (∀ r ∈ b.devices, validId s.crc8Table r) →
    ∃ (t : State) (b' : Bus), commandOnBus .first b s = (.next t, b') ∧ b'.devices = b.devices ∧
      t.fsm = .idle ∧ t.rsp.found = true ∧ t.FoundOn b.devices ∧
      ∀ r ∈ b.devices, r = t.search.rom ∨ romBefore t.search.rom r

/-- 41_search.md R95 and 42_session.md R105 on the model's bus (log entry 17): after a found id NEXT finds the next id
in order, and at the last id it answers not-found and leaves SearchState. -/
def Obligations.NextFindsNextId : Prop :=
  ∀ (s : State) (b : Bus), s.Inv → s.fsm = .idle → (∀ r ∈ b.devices, validId s.crc8Table r) → s.FoundOn b.devices →
    (s.search.ldf = false →
      ∃ (t : State) (b' : Bus), commandOnBus .next b s = (.next t, b') ∧ b'.devices = b.devices ∧
        t.fsm = .idle ∧ t.rsp.found = true ∧ t.FoundOn b.devices ∧
        romBefore s.search.rom t.search.rom ∧
        ∀ r ∈ b.devices, romBefore s.search.rom r → r = t.search.rom ∨ romBefore t.search.rom r) ∧
    (s.search.ldf = true →
      (∀ r ∈ b.devices, r = s.search.rom ∨ romBefore r s.search.rom) ∧
      ∃ t : State, commandOnBus .next b s = (.next t, b) ∧
        t.fsm = .idle ∧ t.rsp.found = false ∧ t.search = s.search ∧ t.phyReqValid = false)

/-- 42_session.md R102 on the model's bus (log entry 17), for a table that is 0 at 0 only (assumed of the parameter by
name, 93_implementation_defined.md I10; the default is, log entry 5): on a bus of valid ids VERIFY answers 1 exactly when
its id is present, and leaves SearchState as it was. -/
def Obligations.VerifyAnswersPresence : Prop :=
  ∀ (s : State) (b : Bus) (rom : BitVec 64), s.Inv → s.fsm = .idle → zeroOnlyAtZero s.crc8Table →
    (∀ r ∈ b.devices, validId s.crc8Table r) →
    ∃ (t : State) (b' : Bus), commandOnBus (.verify rom) b s = (.next t, b') ∧
      t.fsm = .idle ∧ t.search = s.search ∧ (t.rsp.found = true ↔ unpackRom rom ∈ b.devices)
end

