-- ==== Sys2Proof/Laws/State.lean ====
section
/-! SUPPORT. What each plain update of the state does to each field: one lemma per field per update, true by rfl. -/

namespace Sys2Proof.Machine

/-! ### issue: PhyReq (00_scope.md R10) -/

@[simp] theorem State.issue_search (s : State) (w : BitVec 10) : (s.issue w).search = s.search := rfl
@[simp] theorem State.issue_pass (s : State) (w : BitVec 10) : (s.issue w).pass = s.pass := rfl
@[simp] theorem State.issue_mode (s : State) (w : BitVec 10) : (s.issue w).mode = s.mode := rfl
@[simp] theorem State.issue_saved (s : State) (w : BitVec 10) : (s.issue w).saved = s.saved := rfl
@[simp] theorem State.issue_vrom (s : State) (w : BitVec 10) : (s.issue w).vrom = s.vrom := rfl
@[simp] theorem State.issue_fsm (s : State) (w : BitVec 10) : (s.issue w).fsm = s.fsm := rfl
@[simp] theorem State.issue_rsp (s : State) (w : BitVec 10) : (s.issue w).rsp = s.rsp := rfl
@[simp] theorem State.issue_rspValid (s : State) (w : BitVec 10) : (s.issue w).rspValid = s.rspValid := rfl
@[simp] theorem State.issue_phyReqValid (s : State) (w : BitVec 10) : (s.issue w).phyReqValid = true := rfl
@[simp] theorem State.issue_phyReq (s : State) (w : BitVec 10) : (s.issue w).phyReq = w := rfl
@[simp] theorem State.issue_crc8Table (s : State) (w : BitVec 10) : (s.issue w).crc8Table = s.crc8Table := rfl
@[simp] theorem State.issue_trace (s : State) (w : BitVec 10) : (s.issue w).trace = .request w :: s.trace := rfl
@[simp] theorem State.issue_inputs (s : State) (w : BitVec 10) : (s.issue w).inputs = s.inputs := rfl
@[simp] theorem State.issue_script (s : State) (w : BitVec 10) : (s.issue w).script = s.script := rfl
@[simp] theorem State.issue_draws (s : State) (w : BitVec 10) : (s.issue w).draws = s.draws := rfl

/-! ### respond: Respond (00_scope.md R10) -/

@[simp] theorem State.respond_search (s : State) (r : Response) (l : Label) : (s.respond r l).search = s.search := rfl
@[simp] theorem State.respond_pass (s : State) (r : Response) (l : Label) : (s.respond r l).pass = s.pass := rfl
@[simp] theorem State.respond_mode (s : State) (r : Response) (l : Label) : (s.respond r l).mode = s.mode := rfl
@[simp] theorem State.respond_saved (s : State) (r : Response) (l : Label) : (s.respond r l).saved = s.saved := rfl
@[simp] theorem State.respond_vrom (s : State) (r : Response) (l : Label) : (s.respond r l).vrom = s.vrom := rfl
@[simp] theorem State.respond_fsm (s : State) (r : Response) (l : Label) : (s.respond r l).fsm = s.fsm := rfl
@[simp] theorem State.respond_rsp (s : State) (r : Response) (l : Label) : (s.respond r l).rsp = r := rfl
@[simp] theorem State.respond_rspValid (s : State) (r : Response) (l : Label) : (s.respond r l).rspValid = true := rfl
@[simp] theorem State.respond_phyReqValid (s : State) (r : Response) (l : Label) : (s.respond r l).phyReqValid = s.phyReqValid := rfl
@[simp] theorem State.respond_phyReq (s : State) (r : Response) (l : Label) : (s.respond r l).phyReq = s.phyReq := rfl
@[simp] theorem State.respond_crc8Table (s : State) (r : Response) (l : Label) : (s.respond r l).crc8Table = s.crc8Table := rfl
@[simp] theorem State.respond_trace (s : State) (r : Response) (l : Label) : (s.respond r l).trace = .response r.word l :: s.trace := rfl
@[simp] theorem State.respond_inputs (s : State) (r : Response) (l : Label) : (s.respond r l).inputs = s.inputs := rfl
@[simp] theorem State.respond_script (s : State) (r : Response) (l : Label) : (s.respond r l).script = s.script := rfl
@[simp] theorem State.respond_draws (s : State) (r : Response) (l : Label) : (s.respond r l).draws = s.draws := rfl

/-! ### goto: `state <- S` (00_scope.md R10) -/

@[simp] theorem State.goto_search (s : State) (f : Fsm) : (s.goto f).search = s.search := rfl
@[simp] theorem State.goto_pass (s : State) (f : Fsm) : (s.goto f).pass = s.pass := rfl
@[simp] theorem State.goto_mode (s : State) (f : Fsm) : (s.goto f).mode = s.mode := rfl
@[simp] theorem State.goto_saved (s : State) (f : Fsm) : (s.goto f).saved = s.saved := rfl
@[simp] theorem State.goto_vrom (s : State) (f : Fsm) : (s.goto f).vrom = s.vrom := rfl
@[simp] theorem State.goto_fsm (s : State) (f : Fsm) : (s.goto f).fsm = f := rfl
@[simp] theorem State.goto_rsp (s : State) (f : Fsm) : (s.goto f).rsp = s.rsp := rfl
@[simp] theorem State.goto_rspValid (s : State) (f : Fsm) : (s.goto f).rspValid = s.rspValid := rfl
@[simp] theorem State.goto_phyReqValid (s : State) (f : Fsm) : (s.goto f).phyReqValid = s.phyReqValid := rfl
@[simp] theorem State.goto_phyReq (s : State) (f : Fsm) : (s.goto f).phyReq = s.phyReq := rfl
@[simp] theorem State.goto_crc8Table (s : State) (f : Fsm) : (s.goto f).crc8Table = s.crc8Table := rfl
@[simp] theorem State.goto_trace (s : State) (f : Fsm) : (s.goto f).trace = s.trace := rfl
@[simp] theorem State.goto_inputs (s : State) (f : Fsm) : (s.goto f).inputs = s.inputs := rfl
@[simp] theorem State.goto_script (s : State) (f : Fsm) : (s.goto f).script = s.script := rfl
@[simp] theorem State.goto_draws (s : State) (f : Fsm) : (s.goto f).draws = s.draws := rfl

/-! ### resetToInitial: reset_to_initial (10_state.md R17) -/

@[simp] theorem State.resetToInitial_search (s : State) : (s.resetToInitial).search = { s.search with ld := 0, lfd := 0, ldf := false } := rfl
@[simp] theorem State.resetToInitial_pass (s : State) : (s.resetToInitial).pass = s.pass := rfl
@[simp] theorem State.resetToInitial_mode (s : State) : (s.resetToInitial).mode = s.mode := rfl
@[simp] theorem State.resetToInitial_saved (s : State) : (s.resetToInitial).saved = s.saved := rfl
@[simp] theorem State.resetToInitial_vrom (s : State) : (s.resetToInitial).vrom = s.vrom := rfl
@[simp] theorem State.resetToInitial_fsm (s : State) : (s.resetToInitial).fsm = s.fsm := rfl
@[simp] theorem State.resetToInitial_rsp (s : State) : (s.resetToInitial).rsp = s.rsp := rfl
@[simp] theorem State.resetToInitial_rspValid (s : State) : (s.resetToInitial).rspValid = s.rspValid := rfl
@[simp] theorem State.resetToInitial_phyReqValid (s : State) : (s.resetToInitial).phyReqValid = s.phyReqValid := rfl
@[simp] theorem State.resetToInitial_phyReq (s : State) : (s.resetToInitial).phyReq = s.phyReq := rfl
@[simp] theorem State.resetToInitial_crc8Table (s : State) : (s.resetToInitial).crc8Table = s.crc8Table := rfl
@[simp] theorem State.resetToInitial_trace (s : State) : (s.resetToInitial).trace = s.trace := rfl
@[simp] theorem State.resetToInitial_inputs (s : State) : (s.resetToInitial).inputs = s.inputs := rfl
@[simp] theorem State.resetToInitial_script (s : State) : (s.resetToInitial).script = s.script := rfl
@[simp] theorem State.resetToInitial_draws (s : State) : (s.resetToInitial).draws = s.draws := rfl

/-! ### saveSearch: VERIFY's save (42_session.md R102) -/

@[simp] theorem State.saveSearch_search (s : State) : (s.saveSearch).search = s.search := rfl
@[simp] theorem State.saveSearch_pass (s : State) : (s.saveSearch).pass = s.pass := rfl
@[simp] theorem State.saveSearch_mode (s : State) : (s.saveSearch).mode = s.mode := rfl
@[simp] theorem State.saveSearch_saved (s : State) : (s.saveSearch).saved = s.search := rfl
@[simp] theorem State.saveSearch_vrom (s : State) : (s.saveSearch).vrom = s.vrom := rfl
@[simp] theorem State.saveSearch_fsm (s : State) : (s.saveSearch).fsm = s.fsm := rfl
@[simp] theorem State.saveSearch_rsp (s : State) : (s.saveSearch).rsp = s.rsp := rfl
@[simp] theorem State.saveSearch_rspValid (s : State) : (s.saveSearch).rspValid = s.rspValid := rfl
@[simp] theorem State.saveSearch_phyReqValid (s : State) : (s.saveSearch).phyReqValid = s.phyReqValid := rfl
@[simp] theorem State.saveSearch_phyReq (s : State) : (s.saveSearch).phyReq = s.phyReq := rfl
@[simp] theorem State.saveSearch_crc8Table (s : State) : (s.saveSearch).crc8Table = s.crc8Table := rfl
@[simp] theorem State.saveSearch_trace (s : State) : (s.saveSearch).trace = s.trace := rfl
@[simp] theorem State.saveSearch_inputs (s : State) : (s.saveSearch).inputs = s.inputs := rfl
@[simp] theorem State.saveSearch_script (s : State) : (s.saveSearch).script = s.script := rfl
@[simp] theorem State.saveSearch_draws (s : State) : (s.saveSearch).draws = s.draws := rfl

/-! ### restoreSearch: VERIFY's restore (41_search.md R92) -/

@[simp] theorem State.restoreSearch_search (s : State) : (s.restoreSearch).search = s.saved := rfl
@[simp] theorem State.restoreSearch_pass (s : State) : (s.restoreSearch).pass = s.pass := rfl
@[simp] theorem State.restoreSearch_mode (s : State) : (s.restoreSearch).mode = s.mode := rfl
@[simp] theorem State.restoreSearch_saved (s : State) : (s.restoreSearch).saved = s.saved := rfl
@[simp] theorem State.restoreSearch_vrom (s : State) : (s.restoreSearch).vrom = s.vrom := rfl
@[simp] theorem State.restoreSearch_fsm (s : State) : (s.restoreSearch).fsm = s.fsm := rfl
@[simp] theorem State.restoreSearch_rsp (s : State) : (s.restoreSearch).rsp = s.rsp := rfl
@[simp] theorem State.restoreSearch_rspValid (s : State) : (s.restoreSearch).rspValid = s.rspValid := rfl
@[simp] theorem State.restoreSearch_phyReqValid (s : State) : (s.restoreSearch).phyReqValid = s.phyReqValid := rfl
@[simp] theorem State.restoreSearch_phyReq (s : State) : (s.restoreSearch).phyReq = s.phyReq := rfl
@[simp] theorem State.restoreSearch_crc8Table (s : State) : (s.restoreSearch).crc8Table = s.crc8Table := rfl
@[simp] theorem State.restoreSearch_trace (s : State) : (s.restoreSearch).trace = s.trace := rfl
@[simp] theorem State.restoreSearch_inputs (s : State) : (s.restoreSearch).inputs = s.inputs := rfl
@[simp] theorem State.restoreSearch_script (s : State) : (s.restoreSearch).script = s.script := rfl
@[simp] theorem State.restoreSearch_draws (s : State) : (s.restoreSearch).draws = s.draws := rfl

/-! ### beginEdge: the pulses fall (10_state.md R30, R34) -/

@[simp] theorem State.beginEdge_search (s : State) : (s.beginEdge).search = s.search := rfl
@[simp] theorem State.beginEdge_pass (s : State) : (s.beginEdge).pass = s.pass := rfl
@[simp] theorem State.beginEdge_mode (s : State) : (s.beginEdge).mode = s.mode := rfl
@[simp] theorem State.beginEdge_saved (s : State) : (s.beginEdge).saved = s.saved := rfl
@[simp] theorem State.beginEdge_vrom (s : State) : (s.beginEdge).vrom = s.vrom := rfl
@[simp] theorem State.beginEdge_fsm (s : State) : (s.beginEdge).fsm = s.fsm := rfl
@[simp] theorem State.beginEdge_rsp (s : State) : (s.beginEdge).rsp = s.rsp := rfl
@[simp] theorem State.beginEdge_rspValid (s : State) : (s.beginEdge).rspValid = false := rfl
@[simp] theorem State.beginEdge_phyReqValid (s : State) : (s.beginEdge).phyReqValid = false := rfl
@[simp] theorem State.beginEdge_phyReq (s : State) : (s.beginEdge).phyReq = s.phyReq := rfl
@[simp] theorem State.beginEdge_crc8Table (s : State) : (s.beginEdge).crc8Table = s.crc8Table := rfl
@[simp] theorem State.beginEdge_trace (s : State) : (s.beginEdge).trace = s.trace := rfl
@[simp] theorem State.beginEdge_inputs (s : State) : (s.beginEdge).inputs = s.inputs := rfl
@[simp] theorem State.beginEdge_script (s : State) : (s.beginEdge).script = s.script := rfl
@[simp] theorem State.beginEdge_draws (s : State) : (s.beginEdge).draws = s.draws := rfl

/-! ### verifySetup: VERIFY's setup (42_session.md R102) -/

@[simp] theorem State.verifySetup_search (s : State) (rom : Rom) : (s.verifySetup rom).search = { s.search with rom := rom, ld := Config.verifyLd, ldf := false } := rfl
@[simp] theorem State.verifySetup_pass (s : State) (rom : Rom) : (s.verifySetup rom).pass = s.pass := rfl
@[simp] theorem State.verifySetup_mode (s : State) (rom : Rom) : (s.verifySetup rom).mode = s.mode := rfl
@[simp] theorem State.verifySetup_saved (s : State) (rom : Rom) : (s.verifySetup rom).saved = s.search := rfl
@[simp] theorem State.verifySetup_vrom (s : State) (rom : Rom) : (s.verifySetup rom).vrom = rom := rfl
@[simp] theorem State.verifySetup_fsm (s : State) (rom : Rom) : (s.verifySetup rom).fsm = s.fsm := rfl
@[simp] theorem State.verifySetup_rsp (s : State) (rom : Rom) : (s.verifySetup rom).rsp = s.rsp := rfl
@[simp] theorem State.verifySetup_rspValid (s : State) (rom : Rom) : (s.verifySetup rom).rspValid = s.rspValid := rfl
@[simp] theorem State.verifySetup_phyReqValid (s : State) (rom : Rom) : (s.verifySetup rom).phyReqValid = s.phyReqValid := rfl
@[simp] theorem State.verifySetup_phyReq (s : State) (rom : Rom) : (s.verifySetup rom).phyReq = s.phyReq := rfl
@[simp] theorem State.verifySetup_crc8Table (s : State) (rom : Rom) : (s.verifySetup rom).crc8Table = s.crc8Table := rfl
@[simp] theorem State.verifySetup_trace (s : State) (rom : Rom) : (s.verifySetup rom).trace = s.trace := rfl
@[simp] theorem State.verifySetup_inputs (s : State) (rom : Rom) : (s.verifySetup rom).inputs = s.inputs := rfl
@[simp] theorem State.verifySetup_script (s : State) (rom : Rom) : (s.verifySetup rom).script = s.script := rfl
@[simp] theorem State.verifySetup_draws (s : State) (rom : Rom) : (s.verifySetup rom).draws = s.draws := rfl

/-! ### passInit: pass_init (41_search.md R81) -/

@[simp] theorem State.passInit_search (s : State) : (s.passInit).search = s.search := rfl
@[simp] theorem State.passInit_pass (s : State) : (s.passInit).pass = { s.pass with crc := 0, lz := 0, p := 1, byte := 0, mask := 0x01#8 } := rfl
@[simp] theorem State.passInit_mode (s : State) : (s.passInit).mode = s.mode := rfl
@[simp] theorem State.passInit_saved (s : State) : (s.passInit).saved = s.saved := rfl
@[simp] theorem State.passInit_vrom (s : State) : (s.passInit).vrom = s.vrom := rfl
@[simp] theorem State.passInit_fsm (s : State) : (s.passInit).fsm = .rstWait := rfl
@[simp] theorem State.passInit_rsp (s : State) : (s.passInit).rsp = s.rsp := rfl
@[simp] theorem State.passInit_rspValid (s : State) : (s.passInit).rspValid = s.rspValid := rfl
@[simp] theorem State.passInit_phyReqValid (s : State) : (s.passInit).phyReqValid = true := rfl
@[simp] theorem State.passInit_phyReq (s : State) : (s.passInit).phyReq = Request.resetBus := rfl
@[simp] theorem State.passInit_crc8Table (s : State) : (s.passInit).crc8Table = s.crc8Table := rfl
@[simp] theorem State.passInit_trace (s : State) : (s.passInit).trace = .request Request.resetBus :: s.trace := rfl
@[simp] theorem State.passInit_inputs (s : State) : (s.passInit).inputs = s.inputs := rfl
@[simp] theorem State.passInit_script (s : State) : (s.passInit).script = s.script := rfl
@[simp] theorem State.passInit_draws (s : State) : (s.passInit).draws = s.draws := rfl

/-! ### nextInputs and resetEdge: the input levels move on, and reset (70_reset_and_hazards.md R151) -/

@[simp] theorem State.nextInputs_search (s : State) : s.nextInputs.search = s.search := by
  unfold State.nextInputs; split <;> rfl
@[simp] theorem State.nextInputs_pass (s : State) : s.nextInputs.pass = s.pass := by
  unfold State.nextInputs; split <;> rfl
@[simp] theorem State.nextInputs_mode (s : State) : s.nextInputs.mode = s.mode := by
  unfold State.nextInputs; split <;> rfl
@[simp] theorem State.nextInputs_saved (s : State) : s.nextInputs.saved = s.saved := by
  unfold State.nextInputs; split <;> rfl
@[simp] theorem State.nextInputs_vrom (s : State) : s.nextInputs.vrom = s.vrom := by
  unfold State.nextInputs; split <;> rfl
@[simp] theorem State.nextInputs_fsm (s : State) : s.nextInputs.fsm = s.fsm := by
  unfold State.nextInputs; split <;> rfl
@[simp] theorem State.nextInputs_rsp (s : State) : s.nextInputs.rsp = s.rsp := by
  unfold State.nextInputs; split <;> rfl
@[simp] theorem State.nextInputs_rspValid (s : State) : s.nextInputs.rspValid = s.rspValid := by
  unfold State.nextInputs; split <;> rfl
@[simp] theorem State.nextInputs_phyReqValid (s : State) : s.nextInputs.phyReqValid = s.phyReqValid := by
  unfold State.nextInputs; split <;> rfl
@[simp] theorem State.nextInputs_phyReq (s : State) : s.nextInputs.phyReq = s.phyReq := by
  unfold State.nextInputs; split <;> rfl
@[simp] theorem State.nextInputs_crc8Table (s : State) : s.nextInputs.crc8Table = s.crc8Table := by
  unfold State.nextInputs; split <;> rfl
@[simp] theorem State.nextInputs_trace (s : State) : s.nextInputs.trace = s.trace := by
  unfold State.nextInputs; split <;> rfl
@[simp] theorem State.resetEdge_search (s : State) : s.resetEdge.search = State.reset.search := rfl
@[simp] theorem State.resetEdge_pass (s : State) : s.resetEdge.pass = State.reset.pass := rfl
@[simp] theorem State.resetEdge_mode (s : State) : s.resetEdge.mode = State.reset.mode := rfl
@[simp] theorem State.resetEdge_saved (s : State) : s.resetEdge.saved = State.reset.saved := rfl
@[simp] theorem State.resetEdge_vrom (s : State) : s.resetEdge.vrom = State.reset.vrom := rfl
@[simp] theorem State.resetEdge_fsm (s : State) : s.resetEdge.fsm = State.reset.fsm := rfl
@[simp] theorem State.resetEdge_rsp (s : State) : s.resetEdge.rsp = State.reset.rsp := rfl
@[simp] theorem State.resetEdge_rspValid (s : State) : s.resetEdge.rspValid = State.reset.rspValid := rfl
@[simp] theorem State.resetEdge_phyReqValid (s : State) : s.resetEdge.phyReqValid = State.reset.phyReqValid := rfl
@[simp] theorem State.resetEdge_phyReq (s : State) : s.resetEdge.phyReq = s.phyReq := rfl
@[simp] theorem State.resetEdge_crc8Table (s : State) : s.resetEdge.crc8Table = s.crc8Table := rfl
@[simp] theorem State.resetEdge_trace (s : State) : s.resetEdge.trace = .reset :: s.trace := rfl
@[simp] theorem State.resetEdge_inputs (s : State) : s.resetEdge.inputs = s.inputs := rfl
@[simp] theorem State.resetEdge_script (s : State) : s.resetEdge.script = s.script := rfl
@[simp] theorem State.resetEdge_draws (s : State) : s.resetEdge.draws = s.draws := rfl

end Sys2Proof.Machine
end

