-- ==== Sys2Proof/Laws/Ops.lean ====
section
/-! SUPPORT. What each shared operation can do, said once; the statements' proofs cite these lemmas. -/

namespace Sys2Proof.Machine

/-! ### Guards -/

/-- The range check in numbers (10_state.md R20). -/
theorem State.inRange_iff (s : State) :
    s.inRange = true ↔
      s.search.ld.toNat ≤ 64 ∧ s.search.lfd.toNat ≤ 8 ∧ s.pass.lz.toNat ≤ 64 ∧ 1 ≤ s.pass.p.toNat ∧
        s.pass.p.toNat ≤ 65 ∧ s.pass.byte.toNat ≤ 8 ∧ oneHot s.pass.mask = true ∧ s.fsm.legal = true := by
  simp [State.inRange, and_assoc]

/-- In range the guard does nothing. -/
theorem State.guarded_of_inRange {s : State} {r : Result} (h : s.inRange = true) : s.guarded r = r := by
  simp [State.guarded, h]

/-- Out of range the guard faults (10_state.md R20). -/
theorem State.guarded_of_not_inRange {s : State} {r : Result} (h : s.inRange = false) :
    s.guarded r = .fault .outOfRange := by
  simp [State.guarded, h]

/-- A next state under the guard comes from the guarded result, in range. -/
theorem State.guarded_next {s t : State} {r : Result} (h : s.guarded r = .next t) :
    s.inRange = true ∧ r = .next t := by
  unfold State.guarded at h
  split at h
  · exact ⟨‹_›, h⟩
  · cases h

/-- CMD_READY in words (10_state.md R32). -/
theorem State.cmdReady_iff (s : State) : s.cmdReady = true ↔ s.fsm = .idle ∧ s.inputs.rst = false := by
  simp [State.cmdReady]

/-- A command is accepted where the block is ready. -/
theorem State.accept_of_accepting {s : State} {r : Result} (h : s.Accepting) : s.accept r = r := by
  obtain ⟨hr, hf, hi⟩ := h
  simp [State.accept, State.guarded, hr, State.cmdReady, hf, hi]

/-- A command presented where the block is not ready has no effect. -/
theorem State.accept_of_not_ready {s : State} {r : Result} (hr : s.inRange = true) (h : s.cmdReady = false) :
    s.accept r = .next s := by
  simp [State.accept, State.guarded, hr, h]

/-- What acceptance can answer. -/
theorem State.accept_next {s t : State} {r : Result} (h : s.accept r = .next t) :
    s.inRange = true ∧ (s.cmdReady = true ∧ r = .next t ∨ s.cmdReady = false ∧ t = s) := by
  obtain ⟨hr, h⟩ := State.guarded_next h
  refine ⟨hr, ?_⟩
  split at h
  · exact .inl ⟨‹_›, h⟩
  · simp only [Host.Outcome.next.injEq] at h
    simp_all

/-- A response is taken in a wait state that issued its request. -/
theorem State.takeResponse_of_awaiting {s : State} {f : Fsm} {waits : List Fsm} {r : Result}
    (h : s.Awaiting f) (hw : f ∈ waits) (hf : f ≠ .idle) : s.takeResponse waits r = r := by
  obtain ⟨hr, hfsm, hi⟩ := h
  subst hfsm
  simp [State.takeResponse, State.guarded, hr, hi, hf, hw]

/-- What taking a response can answer. -/
theorem State.takeResponse_next {s t : State} {waits : List Fsm} {r : Result}
    (h : s.takeResponse waits r = .next t) :
    s.inRange = true ∧
      ((s.inputs.rst = true ∨ s.fsm = .idle) ∧ t = s ∨
        s.inputs.rst = false ∧ s.fsm ≠ .idle ∧ s.fsm ∈ waits ∧ r = .next t) := by
  obtain ⟨hr, h⟩ := State.guarded_next h
  refine ⟨hr, ?_⟩
  split at h
  · simp_all
  · split at h
    · simp_all
    · split at h
      · simp_all
      · cases h

/-- A mapped next state comes from a next state. -/
theorem mapNext_next {r : Result} {f : State → State} {t : State} (h : mapNext r f = .next t) :
    ∃ u, r = .next u ∧ t = f u := by
  cases r with
  | next u => exact ⟨u, rfl, by simpa [mapNext] using h.symm⟩
  | fault e => cases h
  | refused e => cases h

@[simp] theorem mapNext_of_next (u : State) (f : State → State) : mapNext (.next u) f = .next (f u) := rfl

/-! ### The end of a command -/

/-- `finish` for FIRST and NEXT (41_search.md R92). -/
theorem State.finish_search {s : State} (found : Bool) (l : Label) (h : s.mode = .search) :
    s.finish found l = (s.respond (.ofFound found) l).goto .idle := by
  simp [State.finish, h]

/-- `finish` for VERIFY (41_search.md R92). -/
theorem State.finish_verify {s : State} (found : Bool) (l : Label) (h : s.mode = .verify) :
    s.finish found l =
      (s.restoreSearch.respond (.ofFound (verifyMatch found s.search.rom s.vrom)) l).goto .idle := by
  simp [State.finish, h]

/-- `finish` always leaves the block IDLE. -/
@[simp] theorem State.finish_fsm (s : State) (found : Bool) (l : Label) : (s.finish found l).fsm = .idle := by
  unfold State.finish; split <;> rfl

/-- `finish` always raises RSP_VALID. -/
@[simp] theorem State.finish_rspValid (s : State) (found : Bool) (l : Label) :
    (s.finish found l).rspValid = true := by
  unfold State.finish; split <;> rfl

@[simp] theorem State.finish_pass (s : State) (found : Bool) (l : Label) : (s.finish found l).pass = s.pass := by
  unfold State.finish; split <;> rfl

@[simp] theorem State.finish_mode (s : State) (found : Bool) (l : Label) : (s.finish found l).mode = s.mode := by
  unfold State.finish; split <;> rfl

@[simp] theorem State.finish_saved (s : State) (found : Bool) (l : Label) : (s.finish found l).saved = s.saved := by
  unfold State.finish; split <;> rfl

@[simp] theorem State.finish_vrom (s : State) (found : Bool) (l : Label) : (s.finish found l).vrom = s.vrom := by
  unfold State.finish; split <;> rfl

@[simp] theorem State.finish_phyReq (s : State) (found : Bool) (l : Label) : (s.finish found l).phyReq = s.phyReq := by
  unfold State.finish; split <;> rfl

@[simp] theorem State.finish_crc8Table (s : State) (found : Bool) (l : Label) :
    (s.finish found l).crc8Table = s.crc8Table := by
  unfold State.finish; split <;> rfl

@[simp] theorem State.finish_phyReqValid (s : State) (found : Bool) (l : Label) :
    (s.finish found l).phyReqValid = s.phyReqValid := by
  unfold State.finish; split <;> rfl

@[simp] theorem State.finish_inputs (s : State) (found : Bool) (l : Label) : (s.finish found l).inputs = s.inputs := by
  unfold State.finish; split <;> rfl

@[simp] theorem State.finish_script (s : State) (found : Bool) (l : Label) : (s.finish found l).script = s.script := by
  unfold State.finish; split <;> rfl

@[simp] theorem State.finish_draws (s : State) (found : Bool) (l : Label) : (s.finish found l).draws = s.draws := by
  unfold State.finish; split <;> rfl

/-- SearchState after `finish`: kept, or for VERIFY restored (41_search.md R92). -/
theorem State.finish_searchState (s : State) (found : Bool) (l : Label) :
    (s.finish found l).search = match s.mode with | .search => s.search | .verify => s.saved := by
  unfold State.finish; split <;> simp_all

/-- The one way `evaluate` ends: a `finish` after a failure or a success (41_search.md R90, R91). -/
theorem State.evaluate_cases (s : State) :
    (s.pass.crc ≠ 0#8 ∧ s.evaluate = s.fail .checksumMismatch) ∨
      (s.pass.crc = 0#8 ∧ s.search.rom[0] = 0#8 ∧ s.evaluate = s.fail .invalidRom) ∨
        (s.pass.crc = 0#8 ∧ s.search.rom[0] ≠ 0#8 ∧ s.evaluate = s.succeed) := by
  unfold State.evaluate
  split
  · exact .inl ⟨‹_›, rfl⟩
  · split
    · exact .inr (.inl ⟨by simp_all, ‹_›, rfl⟩)
    · exact .inr (.inr ⟨by simp_all, ‹_›, rfl⟩)

/-- `evaluate` always leaves the block IDLE. -/
@[simp] theorem State.evaluate_fsm (s : State) : s.evaluate.fsm = .idle := by
  rcases s.evaluate_cases with ⟨-, h⟩ | ⟨-, -, h⟩ | ⟨-, -, h⟩ <;> rw [h] <;>
    simp [State.fail, State.succeed]

/-- `evaluate` leaves the parameter (20_memory.md R52). -/
@[simp] theorem State.evaluate_crc8Table (s : State) : s.evaluate.crc8Table = s.crc8Table := by
  rcases s.evaluate_cases with ⟨-, h⟩ | ⟨-, -, h⟩ | ⟨-, -, h⟩ <;> rw [h] <;>
    simp [State.fail, State.succeed]

/-! ### The bits of ROM -/

/-- The masked write succeeds exactly on the bytes ROM has (20_memory.md R41). -/
theorem storeBit_of_lt (rom : Rom) {i : Nat} (mask : Byte) (d : Bool) (h : i < 8) :
    storeBit rom i mask d = some (rom.set i (if d then rom[i] ||| mask else rom[i] &&& ~~~mask)) := by
  simp [storeBit, romByte, h, Vector.setIfInBounds, Vector.set, Array.setIfInBounds]

/-- There is no byte past ROM[7] (20_memory.md R41). -/
theorem storeBit_of_not_lt (rom : Rom) {i : Nat} (mask : Byte) (d : Bool) (h : ¬ i < 8) :
    storeBit rom i mask d = none := by
  simp [storeBit, romByte, h]

/-- `ROMbit(p)` for a position of the id (20_memory.md R42). -/
theorem romBit_of_range (rom : Rom) {p : Nat} (h : (p - 1) / 8 < 8) :
    romBit rom p = (rom[(p - 1) / 8]).getLsbD ((p - 1) % 8) := by
  simp [romBit, romByte, h]

/-- The counters between two bit positions of a byte (41_search.md R89). -/
theorem PassRegs.advance_of_ne {p : PassRegs} {table : CrcTable} {rom : Rom} (h : p.mask ≠ 0x80#8) :
    p.advance table rom = some { p with p := p.p + 1, mask := p.mask <<< 1 } := by
  unfold PassRegs.advance; rw [if_neg h]

/-- The counters and the CRC feed at the end of a byte (41_search.md R89, 40_crc8.md R75). -/
theorem PassRegs.advance_of_eq {p : PassRegs} {table : CrcTable} {rom : Rom} (h : p.mask = 0x80#8)
    (hb : p.byte.toNat < 8) :
    p.advance table rom =
      some { p with
        p := p.p + 1, crc := crc8Step table p.crc rom[p.byte.toNat], byte := p.byte + 1, mask := 0x01#8 } := by
  unfold PassRegs.advance; rw [if_pos h]; simp [romByte, hb]

end Sys2Proof.Machine
end

