-- ==== Sys2Proof/Laws/PerInstr.lean ====
section
/-! SUPPORT. One lemma per instruction: the word the encoder gives is a word of the instruction's row of
spec/opcode_table.json. -/

namespace Sys2Proof

/-- The bits of a command word outside its operands are those of OP. -/
theorem commandWord_masked (op : BitVec 3) (a b : Byte) :
    commandWord op a b &&& 0xFF0000FF#32 = op.setWidth 32 := by
  apply BitVec.eq_of_getLsbD_eq
  intro i hi
  simp only [commandWord, BitVec.getLsbD_and, BitVec.getLsbD_or, BitVec.getLsbD_shiftLeft, BitVec.getLsbD_setWidth]
  interval_cases i <;> simp

end Sys2Proof

namespace Sys2Proof.Laws.EncodesToRow

/-- The encoded word, in the row's width, has the row's match value under the row's mask (30_encoding.md R61, R67). -/
def Statement (i : Instr) : Prop := (encode i).toNat % 2 ^ i.row.1 &&& i.row.2.2 = i.row.2.1

theorem first : Statement .first := by unfold Statement; decide

theorem next : Statement .next := by unfold Statement; decide

theorem verify (rom : BitVec 64) : Statement (.verify rom) := by
  have h : (encode (.verify rom)).toNat = 3 + rom.toNat * 2 ^ 32 := rfl
  simp [Statement, h, Instr.row, Nat.add_mod]

theorem targetSetup (familyCode : Byte) : Statement (.targetSetup familyCode) := by
  unfold Statement
  revert familyCode
  decide

theorem familySkipSetup : Statement .familySkipSetup := by unfold Statement; decide

theorem crcStep (acc byte : Byte) : Statement (.crcStep acc byte) := by
  have h := congrArg BitVec.toNat (commandWord_masked 0b110 byte acc)
  have hw : (encode (.crcStep acc byte)).toNat = (commandWord 0b110 byte acc).toNat := by
    simp [encode, Encoded.toNat]
  have hl : (commandWord 0b110 byte acc).toNat % 2 ^ 32 = (commandWord 0b110 byte acc).toNat :=
    Nat.mod_eq_of_lt (commandWord 0b110 byte acc).isLt
  rw [BitVec.toNat_and] at h
  unfold Statement
  rw [hw, Instr.row, hl]
  exact h

theorem phyResetBus : Statement .phyResetBus := by unfold Statement; decide

theorem phyWriteBit (d : Bool) : Statement (.phyWriteBit d) := by cases d <;> exact rfl

theorem phyReadBit : Statement .phyReadBit := by unfold Statement; decide

theorem phyWriteByte (v : Byte) : Statement (.phyWriteByte v) := by
  unfold Statement
  revert v
  decide

end Sys2Proof.Laws.EncodesToRow
end

