-- ==== Sys2Proof/Laws/Step.lean ====
section
/-! SUPPORT. What a step can do, said once: the cases of an edge in a state that meets the invariant. -/

namespace Sys2Proof.Machine

/-- The request decoded from each word the block issues (30_encoding.md R67). -/
theorem decode_awaited :
    decode (.request 0x000#10) = .ok .phyResetBus ∧ decode (.request 0x3F0#10) = .ok (.phyWriteByte 0xF0) ∧
      decode (.request 0x200#10) = .ok .phyReadBit ∧
        ∀ d : Bool, decode (.request (if d then 0x101#10 else 0x100#10)) = .ok (.phyWriteBit d) := by
  refine ⟨rfl, rfl, rfl, fun d => ?_⟩
  cases d <;> rfl

/-- Under the invariant FSM is IDLE or waits. -/
theorem State.Inv.idle_or_waiting {s : State} (h : s.Inv) : s.fsm = .idle ∨ s.fsm.waiting = true := by
  have := (s.inRange_iff.mp h.range).2.2.2.2.2.2.2
  cases hf : s.fsm <;> simp_all [Fsm.legal, Fsm.waiting]

/-- What an edge in IDLE does: nothing, an illegal word's answer, or the command. -/
theorem edge_idle (s : State) (h : s.fsm = .idle) :
    edge s =
      if s.inputs.cmdValid then
        match decode (.command s.inputs.cmd s.inputs.romIn) with
        | .ok i => exec i s
        | .error _ => s.illegalCommand
      else s.hold := by
  unfold edge fetch fetchCommand
  rw [if_pos h]
  by_cases hc : s.inputs.cmdValid = true
  · simp only [hc, if_true]
    cases decode (.command s.inputs.cmd s.inputs.romIn) <;> rfl
  · simp [hc]

/-- What an edge in a wait state does under the invariant: nothing until the response arrives, then the step of the
request FSM waits for (41_search.md R82 to R89). -/
theorem edge_waiting (s : State) (h : s.Inv) (hw : s.fsm.waiting = true) (hr : s.inputs.rst = false) :
    edge s =
      if s.inputs.phyRspValid then
        match s.fsm with
        | .rstWait => .next (s.onReset s.inputs.phyBit s.inputs.phyErr)
        | .cmdWait => .next (s.onCommandByte s.inputs.phyErr)
        | .idWait => .next (s.onIdBit s.inputs.phyBit s.inputs.phyErr)
        | .cmpWait => s.onCmpBit s.inputs.phyBit s.inputs.phyErr
        | _ => s.onDirection s.inputs.phyErr
      else .next s := by
  have hq := h.request
  have hd := decode_awaited
  by_cases hv : s.inputs.phyRspValid = true
  · cases hf : s.fsm <;> simp_all only [Fsm.waiting, State.awaited, Bool.false_eq_true]
    all_goals
      simp [edge, fetch, fetchRequest, hf, hv, hq, hd, exec, execPhyResetBus, execPhyWriteByte, execPhyReadBit,
        execPhyWriteBit, State.takeResponse, State.guarded, h.range, hr]
  · have hi : s.fsm ≠ .idle := by intro hc; simp [hc, Fsm.waiting] at hw
    simp [edge, fetch, fetchRequest, hi, hv, State.hold, State.guarded, h.range]

/-- The pulses are no part of the invariant. -/
theorem State.Inv.beginEdge {s : State} (h : s.Inv) : s.beginEdge.Inv :=
  ⟨h.range, h.savedLd, h.savedLfd, h.start, h.position, h.request, h.stored, h.notExhausted⟩

/-- The input levels are no part of the invariant. -/
theorem State.Inv.nextInputs {s : State} (h : s.Inv) : s.nextInputs.Inv := by
  unfold State.nextInputs
  split <;>
    exact ⟨h.range, h.savedLd, h.savedLfd, h.start, h.position, h.request, h.stored, h.notExhausted⟩

/-- A step without RST that answers a next state is an edge that does. -/
theorem step_next {s t : State} (hr : s.inputs.rst = false) (h : step s = .next t) :
    ∃ u, edge s.beginEdge = .next u ∧ t = u.nextInputs := by
  unfold step at h
  rw [hr] at h
  exact mapNext_next h

end Sys2Proof.Machine
end

