-- ==== Sys2Proof/Tests/Slice0.lean ====
section
/-! SUPPORT. The model's own tests: small facts with results from spec/95_test_vectors.md and the rules' examples, and for
each obligation with hypotheses a witness that meets them. -/

namespace Sys2Proof.Tests

open Sys2Proof.Machine

/-! ### Well-formedness and decoding -/

/-- One ill-formed word for each condition of 30_encoding.md R63 (95_test_vectors.md V3.1). -/
theorem test_illegal_words_refused :
    legalCommand 0x00000000 = false ∧ legalCommand 0x00000007 = false ∧ legalCommand 0x00000009 = false ∧
      legalCommand 0x000000F9 = false ∧ legalCommand 0x01000001 = false ∧ legalCommand 0x80000006 = false ∧
      legalCommand 0x00010002 = false ∧ legalCommand 0x00012804 = false ∧ legalCommand 0x00000101 = false ∧
      legalCommand 0x00000103 = false ∧ legalCommand 0x00000105 = false := by decide

/-- "The block issues only these five words" (30_encoding.md R67). -/
theorem test_other_byte_not_well_formed :
    (Instr.phyWriteByte 0xF1).wellFormed = false ∧ (Instr.phyWriteByte 0xF0).wellFormed = true := by decide

/-- The illegal words of V3.1, each with its reason. -/
theorem test_decode_rejects :
    decode (.command 0x00000000 0) = .error .reservedOp ∧ decode (.command 0x00000009 0) = .error .reservedLow ∧
      decode (.command 0x80000006 0) = .error .reservedHigh ∧ decode (.command 0x00000103 0) = .error .operandA ∧
      decode (.command 0x00012804 0) = .error .operandB ∧ decode (.request 0x001#10) = .error .requestData ∧
      decode (.request 0x102#10) = .error .requestData ∧ decode (.request 0x280#10) = .error .requestData := by decide

/-- FIRST: OP = 0b001 (30_encoding.md R61). -/
theorem test_decode_first : decode (.command 0b00000000000000000000000000000001#32 0) = .ok .first := by decide

/-- NEXT: OP = 0b010; ROM_IN is ignored (30_encoding.md R62). -/
theorem test_decode_next : decode (.command 0b00000000000000000000000000000010#32 7) = .ok .next := by decide

/-- VERIFY: OP = 0b011, ROM_IN its operand. -/
theorem test_decode_verify :
    decode (.command 0b00000000000000000000000000000011#32 0x05000804C3B2A110) =
      .ok (.verify 0x05000804C3B2A110) := by decide

/-- TARGET_SETUP: A = 0x28 in bits 15:8. -/
theorem test_decode_targetSetup :
    decode (.command 0b00000000000000000010100000000100#32 0) = .ok (.targetSetup 0x28) := by decide

/-- FAMILY_SKIP_SETUP: OP = 0b101. -/
theorem test_decode_familySkipSetup :
    decode (.command 0b00000000000000000000000000000101#32 0) = .ok .familySkipSetup := by decide

/-- CRC_STEP 0xBC, 0x1C: B = 0xBC in bits 23:16, A = 0x1C in bits 15:8. -/
theorem test_decode_crcStep :
    decode (.command 0b00000000101111000001110000000110#32 0) = .ok (.crcStep 0xBC 0x1C) := by decide

/-- The five request words the block issues (30_encoding.md R67). -/
theorem test_decode_requests :
    decode (.request 0b0000000000#10) = .ok .phyResetBus ∧ decode (.request 0b0100000000#10) = .ok (.phyWriteBit false) ∧
      decode (.request 0b0100000001#10) = .ok (.phyWriteBit true) ∧ decode (.request 0b1000000000#10) = .ok .phyReadBit ∧
      decode (.request 0b1111110000#10) = .ok (.phyWriteByte 0xF0) := by decide

/-- Table words: 32 bits for a command, 10 bits in 16 for a request. -/
theorem test_decodeTableWord :
    decodeTableWord 32 0x00002804 = some (.targetSetup 0x28) ∧ decodeTableWord 32 0x00000007 = none ∧
      decodeTableWord 96 0x0500000000000003 = some (.verify 0x05000000) ∧
      decodeTableWord 16 0x101 = some (.phyWriteBit true) ∧ decodeTableWord 16 0x400 = none := by decide

/-- The assembler's examples (30_encoding.md R69, 95_test_vectors.md V3.1). -/
theorem test_assemble_example :
    assembleText Config.crc8Table "TARGET_SETUP 0x28 ; family" = some [.command 0x00002804 0] ∧
      assembleText Config.crc8Table "CRC_STEP 0xBC, 0x1C" = some [.command 0x00BC1C06 0] ∧ assembleText Config.crc8Table "TARGET_SETUP 256" = none := by
  decide

/-! ### States for the tests -/

/-- D10 of 95_test_vectors.md section 1. -/
def d10 : Rom := #v[0x10, 0xA1, 0xB2, 0xC3, 0x04, 0x08, 0x00, 0x05]

/-- D28a of 95_test_vectors.md section 1. -/
def d28a : Rom := #v[0x28, 0xFF, 0x4C, 0x3E, 0x91, 0x16, 0x04, 0x79]

/-- The next state of an outcome, if there is one. -/
def nextOf (r : Result) : Option State :=
  match r with
  | .next s => some s
  | _ => none

/-- A PHY response presented. -/
def respond (bit err : Bool) : Inputs := { Inputs.quiet with phyRspValid := true, phyBit := bit, phyErr := err }

/-- After reset but for SearchState. -/
def idleWith (rom : Rom) (ld lfd : Position) (ldf : Bool) : State :=
  { State.reset with search := { rom := rom, ld := ld, lfd := lfd, ldf := ldf } }

/-- Waiting in `f` for the answer to `req`, which is on the port. -/
def waitingIn (f : Fsm) (req : BitVec 10) (i : Inputs) : State :=
  { State.reset with fsm := f, phyReq := req, inputs := i }

/-- The start of a pass: RESET_BUS outstanding. -/
def atReset (i : Inputs) : State := { waitingIn .rstWait 0x000#10 i with trace := [.request 0x000#10] }

/-- The second read of position 1 outstanding, the first having read `idb`. -/
def atSecondRead (idb : Bool) (i : Inputs) : State :=
  { waitingIn .cmpWait 0x200#10 i with pass := { PassRegs.reset with idb := idb } }

/-- The WRITE_BIT of position 64 outstanding in a pass that found D10. -/
def atLastBit (m : Mode) (saved : SearchState) : State :=
  { waitingIn .dirWait 0x100#10 (respond false false) with
    search := { rom := d10, ld := 0, lfd := 4, ldf := false }
    pass := { crc := 0x05, p := 64, byte := 7, mask := 0x80#8, lz := 4, idb := false, cmpb := true, dir := false }
    mode := m
    saved := saved
    vrom := d10 }

/-- A command presented in IDLE. -/
def presenting (cmd : BitVec 32) (s : State) : State :=
  { s with inputs := { Inputs.quiet with cmdValid := true, cmd := cmd } }

/-! ### One step of each instruction -/

/-- FIRST issues RESET_BUS and clears LD, LFD and LDF; ROM stays (42_session.md R100). -/
theorem test_first :
    (nextOf (exec .first (idleWith d10 4 4 true))).map (fun t => (t.fsm, t.phyReq, t.search)) =
      some (Fsm.rstWait, 0x000#10, { rom := d10, ld := 0, lfd := 0, ldf := false }) := by decide

/-- NEXT with LDF = 1: not found, no request, SearchState unchanged (42_session.md R101, V6.1). -/
theorem test_next_exhausted :
    (nextOf (exec .next (idleWith d28a 0 4 true))).map (fun t => (t.fsm, t.phyReqValid, t.search, t.rspValid, t.rspWord)) =
      some (.idle, false, { rom := d28a, ld := 0, lfd := 4, ldf := true }, true, 0x0000) := by decide

/-- NEXT with LDF = 0 leaves LD as it is (42_session.md R101). -/
theorem test_next_continues :
    (nextOf (exec .next (idleWith d10 4 4 false))).map (fun t => (t.fsm, t.phyReq, t.search.ld)) =
      some (Fsm.rstWait, 0x000#10, 4) := by decide

/-- VERIFY saves before it writes, and runs with LDF = 1 before it (42_session.md R102). -/
theorem test_verify :
    (nextOf (exec (.verify 0x05000804C3B2A110) (idleWith d28a 0 4 true))).map
        (fun t => (t.saved, t.search, t.vrom, t.mode, t.fsm)) =
      some ({ rom := d28a, ld := 0, lfd := 4, ldf := true }, { rom := d10, ld := 64, lfd := 4, ldf := false }, d10,
        .verify, .rstWait) := by decide

/-- The example of 42_session.md R103. -/
theorem test_targetSetup :
    (nextOf (exec (.targetSetup 0x28) (idleWith d10 0 4 true))).map (fun t => (t.search, t.rspWord)) =
      some ({ rom := #v[0x28, 0, 0, 0, 0, 0, 0, 0], ld := 64, lfd := 0, ldf := false }, 0x0000) := by decide

/-- With LDF = 1 and LFD = 4, LD becomes 4 and LDF stays 1 (42_session.md R104). -/
theorem test_familySkipSetup_keeps_ldf :
    (nextOf (exec .familySkipSetup (idleWith d28a 0 4 true))).map (fun t => t.search) =
      some { rom := d28a, ld := 4, lfd := 0, ldf := true } := by decide

/-- With LFD = 0 it sets LDF (42_session.md R104). -/
theorem test_familySkipSetup_sets_ldf :
    (nextOf (exec .familySkipSetup (idleWith d10 10 0 false))).map (fun t => t.search) =
      some { rom := d10, ld := 0, lfd := 0, ldf := true } := by decide

/-- CRC_STEP 0x00, 0x02 answers RSP = 0xBC00 (40_crc8.md R74). -/
theorem test_crcStep_example :
    (nextOf (exec (.crcStep 0x00 0x02) State.reset)).map (fun t => (t.rspWord, t.rspValid)) = some (0xBC00, true) := by
  decide

/-- CRC_STEP 0x12, 0x34 answers 0xFE00 (V4.1). -/
theorem test_crcStep_operands :
    (nextOf (exec (.crcStep 0x12 0x34) State.reset)).map (fun t => t.rspWord) = some 0xFE00 := by decide

/-- An illegal word answers RSP = 0x0002 (60_exceptions.md R133, V3.2). -/
theorem test_illegal_word_answers :
    (nextOf (edge (presenting 0x00000007 State.reset))).map (fun t => (t.rspWord, t.search)) =
      some (0x0002, SearchState.reset) := by decide

/-- No presence: not found, SearchState initial (41_search.md R82, V5.4). -/
theorem test_phyResetBus_no_presence :
    (nextOf (exec .phyResetBus (atReset (respond false false)))).map (fun t => (t.fsm, t.rspWord, t.search)) =
      some (.idle, 0x0000, SearchState.reset) := by decide

/-- Presence: the search command byte goes out (41_search.md R82). -/
theorem test_phyResetBus_presence :
    (nextOf (exec .phyResetBus (atReset (respond true false)))).map (fun t => (t.fsm, t.phyReq)) =
      some (.cmdWait, 0x3F0#10) := by decide

/-- BIT of a WRITE_BYTE response carries no meaning (10_state.md R35, 41_search.md R83). -/
theorem test_phyWriteByte_ignores_bit :
    (nextOf (exec (.phyWriteByte 0xF0) (waitingIn .cmdWait 0x3F0#10 (respond true false)))).map
        (fun t => (t.fsm, t.phyReq)) = some (.idWait, 0x200#10) := by decide

/-- The first read goes to IDB (41_search.md R84). -/
theorem test_phyReadBit_first :
    (nextOf (exec .phyReadBit (waitingIn .idWait 0x200#10 (respond true false)))).map
        (fun t => (t.fsm, t.pass.idb, t.pass.cmpb)) = some (.cmpWait, true, false) := by decide

/-- A discrepancy at position 1 with LD = 1 takes 1 and records nothing (41_search.md R86, R87, R88). -/
theorem test_phyReadBit_discrepancy_at_ld :
    let s := atSecondRead false (respond false false)
    (nextOf (exec .phyReadBit { s with search := { s.search with ld := 1 } })).map
        (fun t => (t.phyReq, t.search.rom[0], t.pass.lz, t.search.lfd)) = some (0x101#10, 0x01, 0, 0) := by decide

/-- The end of D10's first byte: 0x10 fed to the CRC gives 0x9D (40_crc8.md R75, V4.5). -/
theorem test_phyWriteBit_feeds_byte :
    let s := waitingIn .dirWait 0x100#10 (respond false false)
    (nextOf (exec (.phyWriteBit false)
          { s with
            search := { rom := d10, ld := 0, lfd := 0, ldf := false }
            pass := { PassRegs.reset with p := 8, mask := 0x80#8 } })).map
        (fun t => (t.pass.crc, t.pass.p, t.pass.byte, t.pass.mask)) = some (0x9D, 9, 1, 0x01#8) := by decide

/-- The end of D10's last byte: found, LD = LZ = 4, LFD = 4, LDF = 0 (V5.1, 42_session.md R100's example). -/
theorem test_phyWriteBit_ends_pass :
    (nextOf (exec (.phyWriteBit false) (atLastBit .search SearchState.reset))).map
        (fun t => (t.fsm, t.rspWord, t.search)) =
      some (.idle, 0x0001, { rom := d10, ld := 4, lfd := 4, ldf := false }) := by decide

/-- From reset, a word placed by withFetchWord is the next step's. -/
theorem test_withFetchWord :
    (nextOf (step (State.reset.withFetchWord 32 0x00000206))).map (fun t => t.rspWord) = some 0xBC00 ∧
      (nextOf (step (State.reset.withFetchWord 16 0x200))).map (fun t => t.fsm) = some .cmpWait ∧
      (nextOf (step (State.reset.withFetchWord 16 0x3F0))).map (fun t => t.fsm) = some .idWait := by decide

/-- CRC8_TABLE is a parameter (00_scope.md R8): with another table CRC_STEP answers that table's entry. -/
theorem test_table_parameter :
    let table : CrcTable := Vector.replicate 16 (Vector.replicate 16 0xA5)
    (nextOf (exec (.crcStep 0x00 0x02) { State.reset with crc8Table := table })).map (fun t => t.rspWord) =
      some 0xA500 := by decide

/-- PHY_RSP = {ERR, BIT} (30_encoding.md R68): 0b01 is BIT = 1, 0b10 is ERR = 1. -/
theorem test_phyRsp_packing :
    (withPhyRsp .quiet 0b01).phyBit = true ∧ (withPhyRsp .quiet 0b01).phyErr = false ∧
      (withPhyRsp .quiet 0b10).phyErr = true ∧ phyRspWord (respond false true) = 0b10 := by decide

/-- PHY_REQ is held until the response arrives, also while RST abandons the command (10_state.md R34, 70_reset_and_hazards.md
R152). -/
theorem test_phyReq_held_over_reset :
    (nextOf (step { waitingIn .cmdWait 0x3F0#10 .quiet with inputs := { Inputs.quiet with rst := true } })).map
        (fun t => (t.fsm, t.phyReq, t.phyReqValid)) = some (.idle, 0x3F0#10, false) := by decide

/-- The wired-AND bus of D10 and D28a answers 0 and 0 where they differ, position 4 (95_test_vectors.md W7). -/
theorem test_bus_discrepancy :
    let b : Bus := { devices := [d10, d28a], active := [d10, d28a], position := 4, firstRead := false }
    b.idBit = false ∧ b.cmpBit = false := by decide

/-! ### Witnesses: states and operands that meet each obligation's hypotheses

Each name is the obligation's; where it has several clauses, one witness for each, at the ends of their ranges. -/

/-- RST = 1 on the ports. -/
def resetting : Inputs := { Inputs.quiet with rst := true }

/-- The state after reset accepts. -/
theorem reset_accepting : State.reset.Accepting := ⟨by decide, rfl, rfl⟩

/-- The state after reset meets the invariant. -/
theorem reset_inv : State.reset.Inv :=
  ⟨by decide, by decide, by decide, by simp [State.reset], by simp [State.reset, Fsm.inLoop], fun _ h => (by cases h),
    by simp [State.reset], by simp [State.reset, Fsm.waiting]⟩

/-- The start of a pass meets the invariant, in any mode and with any input levels and script. -/
theorem atReset_inv (i : Inputs) (m : Mode) (script : List Inputs) :
    State.Inv { atReset i with mode := m, script := script } :=
  ⟨rfl, by simp [atReset, waitingIn, State.reset], by simp [atReset, waitingIn, State.reset], fun _ => ⟨rfl, rfl, rfl⟩,
    fun h => absurd h (by simp [atReset, waitingIn, Fsm.inLoop]), fun _ h => Option.some.inj h,
    fun h => absurd h (by simp [atReset, waitingIn]), fun _ => rfl⟩

/-- The last step of a pass that found D10 meets the invariant. -/
theorem atLastBit_inv (m : Mode) : (atLastBit m SearchState.reset).Inv := by
  refine ⟨by cases m <;> decide, by cases m <;> decide, by cases m <;> decide, ?_, ?_,
    fun _ h => Option.some.inj h, ?_, fun _ => rfl⟩
  · intro h
    cases h <;> rename_i h <;> exact absurd h (by simp [atLastBit, waitingIn])
  · intro _
    exact ⟨7, by decide, rfl, by simp [atLastBit], by simp [atLastBit]⟩
  · intro _
    exact (by decide : romBit d10 64 = false)

/-- The last step of a pass that found D10 has the accumulator of its first seven bytes (V4.3: 0x05). -/
theorem atLastBit_crc (m : Mode) : (atLastBit m SearchState.reset).CrcInStep := by
  intro _
  cases m <;> decide

theorem witness_ResetRegisterValues :
    (State.reset = State.reset) ∧
      ∃ t s : State, s.inputs.rst = true ∧ step s = .next t :=
  ⟨rfl, _, { atReset (respond true false) with inputs := resetting }, rfl, rfl⟩

theorem witness_ResetEdgeWinsOverAll :
    ∃ s s' t' : State, s.inputs.rst = true ∧ s'.inputs.rst = true ∧ step s' = .next t' :=
  ⟨{ State.reset with inputs := resetting }, { atReset (respond true false) with inputs := resetting }, _, rfl, rfl, rfl⟩

theorem witness_StepRunsDecodedInstruction_command :
    let s := presenting 0x00000001 State.reset
    s.inputs.rst = false ∧ s.fsm = .idle ∧ s.inputs.cmdValid = true ∧
      decode (.command s.inputs.cmd s.inputs.romIn) = .ok .first := by decide

theorem witness_StepRunsDecodedInstruction_request :
    let s := atReset (respond true false)
    s.inputs.rst = false ∧ s.fsm ≠ .idle ∧ s.inputs.phyRspValid = true ∧ s.phyReq = 0x000#10 ∧
      decode (.request 0x000#10) = .ok .phyResetBus := by decide

theorem witness_IllegalWordOnlyAnswers :
    let s := presenting 0x00000007 State.reset
    s.Accepting ∧ s.inputs.cmdValid = true ∧ legalCommand s.inputs.cmd = false :=
  ⟨⟨by decide, rfl, rfl⟩, rfl, by decide⟩

theorem witness_QuietEdgeKeepsRegisters :
    (State.reset.inRange = true ∧ State.reset.inputs.rst = false ∧ State.reset.fsm = .idle ∧
        State.reset.inputs.cmdValid = false) ∧
      ((atReset .quiet).inRange = true ∧ (atReset .quiet).inputs.rst = false ∧ (atReset .quiet).fsm ≠ .idle ∧
        (atReset .quiet).inputs.phyRspValid = false) := by decide

/-- One state just outside each range of 10_state.md R20. -/
theorem witness_OutOfRangeStepFaults :
    64 < (idleWith d10 65 0 false).search.ld.toNat ∧ 8 < (idleWith d10 0 9 false).search.lfd.toNat ∧
      64 < PassRegs.lz { PassRegs.reset with lz := 65 } ∧
      (PassRegs.p { PassRegs.reset with p := 0 }).toNat = 0 ∧ 65 < (PassRegs.p { PassRegs.reset with p := 66 }).toNat ∧
      8 < (PassRegs.byte { PassRegs.reset with byte := 9 }).toNat ∧
      (∀ k : Nat, (0x00#8) ≠ 1#8 <<< k ∨ 8 ≤ k) ∧ 6 ≤ Fsm.bad6.code.toNat := by
  refine ⟨by decide, by decide, by decide, by decide, by decide, by decide, fun k => ?_, by decide⟩
  by_cases h : k < 8
  · left
    interval_cases k <;> decide
  · right
    omega

theorem witness_EncodeOfDecode :
    decode (.command 0x00FFFF06 0) = .ok (.crcStep 0xFF 0xFF) ∧ decode (.request 0x3F0#10) = .ok (.phyWriteByte 0xF0) := by
  decide

/-- Positions 1 and 64, and the pass registers of each. -/
theorem witness_RomBitPositions :
    (1 ≤ 1 ∧ 1 ≤ 64) ∧ (1 ≤ 64 ∧ 64 ≤ 64) ∧ PassRegs.reset.positioned ∧
      PassRegs.positioned { PassRegs.reset with p := 64, byte := 7, mask := 0x80#8 } :=
  ⟨by decide, by decide, ⟨0, by decide, rfl, by decide, by decide⟩, ⟨7, by decide, rfl, by decide, by decide⟩⟩

theorem witness_RomPacking : (0 < 8 ∧ 7 < 8) ∧ (1 ≤ 1 ∧ 1 ≤ 64) ∧ (1 ≤ 64 ∧ 64 ≤ 64) := by decide

theorem witness_MaskedWriteIsBitWrite :
    PassRegs.reset.positioned ∧ PassRegs.positioned { PassRegs.reset with p := 64, byte := 7, mask := 0x80#8 } :=
  witness_RomBitPositions.2.2

/-- The default table is 0 at 0 only (40_crc8.md R77). -/
theorem default_zeroOnlyAtZero : zeroOnlyAtZero Config.crc8Table := by
  unfold zeroOnlyAtZero
  decide

theorem witness_TableIsReadOnly :
    (∃ t, exec (.crcStep 0x12 0x34) State.reset = .next t) ∧ ∃ t, step State.reset = .next t :=
  ⟨⟨_, rfl⟩, ⟨_, rfl⟩⟩

/-- The first seven bytes of D10, and the default table. -/
theorem witness_CrcValidation :
    zeroOnlyAtZero Config.crc8Table ∧ ([0x10, 0xA1, 0xB2, 0xC3, 0x04, 0x08, 0x00] : List Byte).length = 7 :=
  ⟨default_zeroOnlyAtZero, by decide⟩

theorem witness_CrcCheckAnswersTheRun : State.reset.Accepting ∧ d10.toList ≠ [] := ⟨reset_accepting, by decide⟩

theorem witness_CrcStepAnswers : State.reset.Accepting ∧ 0x00BC1C06#32 &&& 0xFF0000FF = 0x00000006 :=
  ⟨reset_accepting, by decide⟩

theorem witness_FirstStartsPass : State.reset.Accepting := reset_accepting

theorem witness_NextContinuesOrEnds :
    (State.reset.Accepting ∧ State.reset.search.ldf = false) ∧
      ((idleWith d28a 0 4 true).Accepting ∧ (idleWith d28a 0 4 true).search.ldf = true) :=
  ⟨⟨reset_accepting, rfl⟩, ⟨by decide, rfl, rfl⟩, rfl⟩

theorem witness_VerifyStartsPass : (idleWith d28a 0 4 true).Accepting := ⟨by decide, rfl, rfl⟩

theorem witness_TargetSetupWrites : State.reset.Accepting := reset_accepting

theorem witness_FamilySkipWrites : (idleWith d10 64 8 false).Accepting := ⟨by decide, rfl, rfl⟩

theorem witness_SetupCommandsTwice :
    (∃ t, exec .familySkipSetup (idleWith d10 4 4 false) = .next t) ∧
      ∃ t, exec (.targetSetup 0x28) State.reset = .next t :=
  ⟨⟨_, rfl⟩, ⟨_, rfl⟩⟩

theorem witness_NextIsFirstFromInitial :
    State.reset.search.ld = 0 ∧ State.reset.search.lfd = 0 ∧ State.reset.search.ldf = false := by decide

theorem witness_CommandWhileBusyIgnored :
    isCommand .first = true ∧ (atReset .quiet).inRange = true ∧ (atReset .quiet).cmdReady = false := by decide

theorem witness_ResetBusResponse : (atReset (respond true false)).Awaiting .rstWait := ⟨by decide, rfl, rfl⟩

theorem witness_WriteByteResponse : (waitingIn .cmdWait 0x3F0#10 (respond false true)).Awaiting .cmdWait :=
  ⟨by decide, rfl, rfl⟩

theorem witness_FirstReadResponse : (waitingIn .idWait 0x200#10 (respond false false)).Awaiting .idWait :=
  ⟨by decide, rfl, rfl⟩

/-- An error, both bits 1, and a discrepancy. -/
theorem witness_SecondReadResponse :
    ((atSecondRead false (respond false true)).Awaiting .cmpWait ∧
        (atSecondRead false (respond false true)).pass.byte.toNat < 8 ∧
        (atSecondRead false (respond false true)).inputs.phyErr = true) ∧
      ((atSecondRead true (respond true false)).Awaiting .cmpWait ∧
        (atSecondRead true (respond true false)).pass.byte.toNat < 8 ∧
        (atSecondRead true (respond true false)).inputs.phyErr = false ∧
        (atSecondRead true (respond true false)).pass.idb = true ∧
        (atSecondRead true (respond true false)).inputs.phyBit = true) ∧
      ((atSecondRead false (respond false false)).Awaiting .cmpWait ∧
        (atSecondRead false (respond false false)).pass.byte.toNat < 8 ∧
        (atSecondRead false (respond false false)).inputs.phyErr = false ∧
        ¬((atSecondRead false (respond false false)).pass.idb = true ∧
          (atSecondRead false (respond false false)).inputs.phyBit = true)) :=
  ⟨⟨⟨by decide, rfl, rfl⟩, by decide, rfl⟩, ⟨⟨by decide, rfl, rfl⟩, by decide, rfl, rfl, rfl⟩,
    ⟨by decide, rfl, rfl⟩, by decide, rfl, by decide⟩

/-- Position 1, with LD = 0. -/
theorem witness_DirectionCornerCases :
    let s := atSecondRead false .quiet
    s.pass.idb = false ∧ s.pass.cmpb = false ∧ 1 ≤ s.pass.p.toNat ∧ s.pass.p.toNat ≤ 64 ∧ s.search.ld = 0 := by
  decide

/-- Positions 63 and 64, with LD = 64. -/
theorem witness_DirectionCornerCases_verify :
    let s : Position → State := fun p =>
      { idleWith d10 64 0 false with pass := { PassRegs.reset with p := p } }
    ∀ p ∈ [(63 : Position), 64],
      (s p).pass.idb = false ∧ (s p).pass.cmpb = false ∧ 1 ≤ (s p).pass.p.toNat ∧ (s p).pass.p.toNat ≤ 64 ∧
        (s p).search.ld = 64 := by
  decide

/-- An error, a bit inside a byte, and the last bit of a byte. -/
theorem witness_WriteBitResponse :
    let s := waitingIn .dirWait 0x100#10 (respond false true)
    let t := waitingIn .dirWait 0x100#10 (respond false false)
    let u := atLastBit .search SearchState.reset
    (s.Awaiting .dirWait ∧ s.pass.byte.toNat < 8 ∧ s.inputs.phyErr = true) ∧
      (t.Awaiting .dirWait ∧ t.pass.byte.toNat < 8 ∧ t.inputs.phyErr = false ∧ t.pass.mask ≠ 0x80#8) ∧
        (u.Awaiting .dirWait ∧ u.pass.byte.toNat < 8 ∧ u.inputs.phyErr = false ∧ u.pass.mask = 0x80#8) :=
  ⟨⟨⟨by decide, rfl, rfl⟩, by decide, rfl⟩, ⟨⟨by decide, rfl, rfl⟩, by decide, rfl, by decide⟩,
    ⟨by decide, rfl, rfl⟩, by decide, rfl, rfl⟩

/-- A wrong CRC, the all-zero id, and D10. -/
theorem witness_EvaluationOrder :
    (atLastBit .search SearchState.reset).pass.crc ≠ 0 ∧
      (State.reset.pass.crc = 0 ∧ State.reset.search.rom[0] = 0) ∧
      ((idleWith d10 0 0 false).pass.crc = 0 ∧ (idleWith d10 0 0 false).search.rom[0] ≠ 0) := by decide

/-- Both modes; for VERIFY a match and a mismatch. -/
theorem witness_FinishAnswers :
    (atReset .quiet).mode = .search ∧ (atLastBit .verify SearchState.reset).mode = .verify ∧
      true = decide (true = true ∧ (atLastBit .verify SearchState.reset).search.rom =
        (atLastBit .verify SearchState.reset).vrom) ∧
      false = decide (false = true ∧ (atLastBit .verify SearchState.reset).search.rom =
        (atLastBit .verify SearchState.reset).vrom) := by decide

theorem witness_FailureProcedure :
    (atReset .quiet).mode = .search ∧ (atLastBit .verify SearchState.reset).mode = .verify := by decide

/-- An error in each wait state. -/
theorem witness_ErrorComesFirst :
    (atReset (respond true true)).Awaiting .rstWait ∧ (waitingIn .cmdWait 0x3F0#10 (respond true true)).Awaiting .cmdWait ∧
      (waitingIn .idWait 0x200#10 (respond true true)).Awaiting .idWait ∧
      (waitingIn .cmpWait 0x200#10 (respond true true)).Awaiting .cmpWait ∧
      (waitingIn .dirWait 0x100#10 (respond true true)).Awaiting .dirWait ∧ (respond true true).phyErr = true :=
  ⟨⟨by decide, rfl, rfl⟩, ⟨by decide, rfl, rfl⟩, ⟨by decide, rfl, rfl⟩, ⟨by decide, rfl, rfl⟩, ⟨by decide, rfl, rfl⟩, rfl⟩

theorem witness_ResponseInIdleIgnored :
    isCommand .phyReadBit = false ∧ State.reset.inRange = true ∧ State.reset.fsm = .idle := by decide

/-- Each request's response in a state that waits for another. -/
theorem witness_MismatchedResponseFaults :
    (waitingIn .dirWait 0x100#10 (respond true false)).Awaiting .dirWait ∧ Fsm.dirWait ≠ .idle ∧
      (Fsm.dirWait ≠ .rstWait ∧ Fsm.dirWait ≠ .cmdWait ∧ Fsm.dirWait ≠ .idWait ∧ Fsm.dirWait ≠ .cmpWait) ∧
      (atReset (respond true false)).Awaiting .rstWait ∧ Fsm.rstWait ≠ .dirWait :=
  ⟨⟨by decide, rfl, rfl⟩, by decide, by decide, ⟨by decide, rfl, rfl⟩, by decide⟩

theorem witness_InvariantKept : State.reset.Inv ∧ ∃ t, step State.reset = .next t := ⟨reset_inv, _, rfl⟩

theorem witness_NoFaultUnderInvariant : (atReset (respond true false)).Inv := atReset_inv _ .search []

theorem witness_RequestSequenceKept :
    (atReset (respond true false)).Inv ∧ (atReset (respond true false)).RequestsInOrder ∧
      ∃ t, step (atReset (respond true false)) = .next t :=
  ⟨atReset_inv _ .search [], rfl, _, rfl⟩

/-- The start of a pass; and the WRITE_BIT of position 64, its requests all on the trace. -/
theorem witness_RequestCount :
    ((atReset .quiet).Inv ∧ (atReset .quiet).RequestsInOrder ∧ (atReset .quiet).fsm.waiting = true) ∧
      ∃ s : State, s.Inv ∧ s.RequestsInOrder ∧ s.fsm.waiting = true ∧ s.fsm = .dirWait ∧ s.pass.p = 64 := by
  have h := atLastBit_inv .search
  refine ⟨⟨atReset_inv _ .search [], rfl, rfl⟩,
    { atLastBit .search SearchState.reset with
      trace := ((atLastBit .search SearchState.reset).expectedRequests.map Event.request).reverse },
    ⟨h.range, h.savedLd, h.savedLfd, h.start, h.position, h.request, h.stored, h.notExhausted⟩, ?_, rfl, rfl, rfl⟩
  have key : ∀ l : List (BitVec 10), requestsSince (l.map Event.request).reverse = l := by
    intro l
    induction l using List.reverseRecOn with
    | nil => rfl
    | append_singleton l w ih => simp [requestsSince, ih]
  exact key _

theorem witness_AccumulatorKept :
    (atLastBit .search SearchState.reset).Inv ∧ (atLastBit .search SearchState.reset).CrcInStep ∧
      ∃ t, step (atLastBit .search SearchState.reset) = .next t :=
  ⟨atLastBit_inv _, atLastBit_crc _, _, rfl⟩

/-- D10 found, by FIRST or NEXT and by VERIFY. -/
theorem witness_FoundIdIsValid (m : Mode) :
    (atLastBit m SearchState.reset).Inv ∧ (atLastBit m SearchState.reset).CrcInStep ∧
      (atLastBit m SearchState.reset).fsm.waiting = true ∧ (atLastBit m SearchState.reset).inputs.rst = false ∧
      ∃ t, step (atLastBit m SearchState.reset) = .next t ∧ t.rspValid = true ∧ t.rsp.found = true := by
  refine ⟨atLastBit_inv m, atLastBit_crc m, rfl, rfl, ?_⟩
  cases m
  · exact ⟨_, rfl, rfl, rfl⟩
  · exact ⟨_, rfl, rfl, rfl⟩

/-- A VERIFY that goes on. -/
theorem witness_VerifyRestores :
    let s : State := { atReset (respond true false) with mode := .verify, script := [] }
    s.Inv ∧ s.fsm.waiting = true ∧ s.mode = .verify ∧ s.inputs.rst = false ∧ ∃ t, step s = .next t :=
  ⟨atReset_inv _ _ _, rfl, rfl, rfl, _, rfl⟩

/-- A VERIFY that ends. -/
theorem witness_VerifyRestores_end :
    let s := atLastBit .verify SearchState.reset
    s.Inv ∧ s.fsm.waiting = true ∧ s.mode = .verify ∧ s.inputs.rst = false ∧
      ∃ t, step s = .next t ∧ t.fsm = .idle :=
  ⟨atLastBit_inv _, rfl, rfl, rfl, _, rfl, rfl⟩

/-- Two passes at their start, with different ids left in ROM. -/
theorem witness_PassIgnoresOldRom :
    (atReset (respond true false)).Inv ∧
      SamePath (atReset (respond true false))
        { atReset (respond true false) with search := { rom := d28a, ld := 0, lfd := 0, ldf := false } } ∧
      ∃ t, step (atReset (respond true false)) = .next t :=
  ⟨atReset_inv _ .search [],
    ⟨rfl, rfl, rfl, rfl, fun h => absurd h (by decide), fun h => absurd h (by decide)⟩, _, rfl⟩

theorem witness_EachResponseBringsTheEndNearer :
    (atReset (respond true false)).Inv ∧ (atReset (respond true false)).fsm.waiting = true ∧
      (atReset (respond true false)).inputs.rst = false ∧ (atReset (respond true false)).inputs.phyRspValid = true ∧
      ∃ t, step (atReset (respond true false)) = .next t :=
  ⟨atReset_inv _ .search [], rfl, rfl, rfl, _, rfl⟩

/-- A PHY that answers at each of 194 edges. -/
theorem witness_PassEndsWithin194 :
    let s : State := { atReset (respond true false) with
      mode := .search, script := List.replicate 193 (respond false false) }
    s.Inv ∧ s.fsm.waiting = true ∧ answering s.inputs = true ∧ (∀ i ∈ s.script, answering i = true) ∧
      193 ≤ s.script.length := by
  refine ⟨atReset_inv _ _ _, rfl, rfl, ?_, (List.length_replicate ..).ge⟩
  intro i hi
  rw [List.eq_of_mem_replicate hi]
  rfl

/-- Exhausted, with NEXT presented. -/
theorem witness_ExhaustionIsKept :
    let s := presenting 0x00000002 (idleWith d28a 0 4 true)
    s.Inv ∧ s.fsm = .idle ∧ s.search.ldf = true ∧ s.inputs.rst = false ∧ (∃ t, step s = .next t) ∧
      (s.inputs.cmdValid = true → ∀ i, decode (.command s.inputs.cmd s.inputs.romIn) = .ok i →
        i ≠ .first ∧ (∀ a, i ≠ .targetSetup a) ∧ (∀ r, i ≠ .verify r)) := by
  refine ⟨⟨by decide, by decide, by decide, fun h => ?_, fun h => absurd h (by decide), fun _ h => (by cases h),
      fun h => absurd h (by decide), fun h => absurd h (by decide)⟩, rfl, rfl, rfl, ⟨_, rfl⟩, ?_⟩
  · cases h <;> rename_i h <;> exact absurd h (by decide)
  · intro _ i hi
    have : i = .next := by
      have h2 : decode (.command 0x00000002 0) = .ok .next := by decide
      exact (Except.ok.inj (h2.symm.trans hi)).symm
    subst this
    simp

/-- A command answered at once, and a pass answered. -/
theorem witness_OneResponsePerCommand :
    ((atLastBit .search SearchState.reset).Inv ∧ (atLastBit .search SearchState.reset).inputs.rst = false ∧
        ∃ t, step (atLastBit .search SearchState.reset) = .next t ∧ t.rspValid = true) ∧
      (State.reset.Inv ∧ State.reset.inputs.rst = false ∧ ∃ t, step State.reset = .next t ∧ t.rspValid = false) :=
  ⟨⟨atLastBit_inv _, rfl, _, rfl, rfl⟩, ⟨reset_inv, rfl, _, rfl, rfl⟩⟩

theorem witness_OnlyFiveRequests :
    (atReset (respond true false)).Inv ∧
      ∃ t, step (atReset (respond true false)) = .next t ∧ t.phyReqValid = true ∧ t.fsm ≠ .idle :=
  ⟨atReset_inv _ .search [], _, rfl, rfl, by decide⟩

/-- A pass that fails: no presence. -/
theorem witness_FailedPassLeavesInitial :
    let s := atReset (respond false false)
    s.Inv ∧ s.fsm.waiting = true ∧ s.mode = .search ∧ s.inputs.rst = false ∧
      ∃ t, step s = .next t ∧ t.fsm = .idle ∧ t.rsp.found = false :=
  ⟨atReset_inv _ .search [], rfl, rfl, rfl, _, rfl, rfl, rfl⟩

/-- A pass that finds D10. -/
theorem witness_FailedPassLeavesInitial_found :
    let s := atLastBit .search SearchState.reset
    s.Inv ∧ s.fsm.waiting = true ∧ s.mode = .search ∧ s.inputs.rst = false ∧
      ∃ t, step s = .next t ∧ t.fsm = .idle ∧ t.rsp.found = true :=
  ⟨atLastBit_inv _, rfl, rfl, rfl, _, rfl, rfl, rfl⟩

/-- A failure's response. -/
theorem witness_OutcomesByCommand :
    let s := atReset (respond false false)
    s.Inv ∧ s.inputs.rst = false ∧ s.fsm.waiting = true ∧
      ∃ t, step s = .next t ∧ t.trace = .response 0x0000 .busResetFailure :: s.trace :=
  ⟨atReset_inv _ .search [], rfl, rfl, _, rfl, rfl⟩

/-- A response given in IDLE. -/
theorem witness_OutcomesByCommand_idle :
    let s := presenting 0x00000002 (idleWith d28a 0 4 true)
    s.Inv ∧ s.inputs.rst = false ∧ s.fsm = .idle ∧
      ∃ t, step s = .next t ∧ t.trace = .response 0x0000 .exhausted :: s.trace :=
  ⟨witness_ExhaustionIsKept.1, rfl, rfl, _, rfl, rfl⟩

/-- The ids of the tests are valid (95_test_vectors.md section 1). -/
theorem valid_ids : ∀ r ∈ [d10, d28a], validId Config.crc8Table r := by
  intro r hr
  simp only [List.mem_cons, List.not_mem_nil, or_false] at hr
  rcases hr with rfl | rfl <;> exact ⟨by decide, by decide⟩

theorem witness_FirstFindsLeastId :
    State.reset.Inv ∧ State.reset.fsm = .idle ∧ (Bus.ofDevices [d10, d28a]).devices ≠ [] ∧
      ∀ r ∈ (Bus.ofDevices [d10, d28a]).devices, validId State.reset.crc8Table r :=
  ⟨reset_inv, rfl, by decide, valid_ids⟩

/-- The two ids first differ at position 4, where D10 has 0 (95_test_vectors.md W7). -/
theorem d10_d28a_differ : sameBefore d10 d28a 4 ∧ romBit d10 4 = false ∧ romBit d28a 4 = true := by
  refine ⟨?_, by decide, by decide⟩
  intro q h1 h2
  interval_cases q <;> decide

/-- After FIRST on {D10, D28a} (42_session.md R100's example: ROM = D10, LD = 4, LDF = 0). -/
theorem found_d10 : (idleWith d10 4 4 false).FoundOn [d10, d28a] := by
  refine ⟨by decide, ?_, ?_, by decide⟩
  · rintro p h1 h2 ⟨hz, d, hd, hs, ho⟩
    simp only [List.mem_cons, List.not_mem_nil, or_false] at hd
    rcases hd with rfl | rfl
    · exact absurd (hz.symm.trans ho) (by decide)
    · by_contra hc
      have hc' : 4 < p := by simpa [idleWith] using hc
      exact absurd (hs 4 (by decide) hc') (by decide)
  · intro _
    exact ⟨by decide, d28a, by decide, d10_d28a_differ.1, by decide⟩

/-- After the NEXT that follows (42_session.md R101's example: ROM = D28a, LD = 0, LDF = 1). -/
theorem found_d28a : (idleWith d28a 0 4 true).FoundOn [d10, d28a] := by
  refine ⟨by decide, ?_, fun h => absurd rfl h, by decide⟩
  rintro p h1 h2 ⟨hz, d, hd, hs, ho⟩
  simp only [List.mem_cons, List.not_mem_nil, or_false] at hd
  rcases hd with rfl | rfl
  · by_cases hp : 4 < p
    · exact absurd (hs 4 (by decide) hp) (by decide)
    · exfalso
      simp only [idleWith] at hz
      interval_cases p <;> revert hz ho <;> decide
  · exact absurd (hz.symm.trans ho) (by decide)

theorem witness_NextFindsNextId :
    ((idleWith d10 4 4 false).fsm = .idle ∧ (∀ r ∈ [d10, d28a], validId Config.crc8Table r) ∧
        (idleWith d10 4 4 false).FoundOn [d10, d28a] ∧ (idleWith d10 4 4 false).search.ldf = false) ∧
      ((idleWith d28a 0 4 true).fsm = .idle ∧ (idleWith d28a 0 4 true).FoundOn [d10, d28a] ∧
        (idleWith d28a 0 4 true).search.ldf = true) ∧
      (idleWith d10 4 4 false).Inv ∧ (idleWith d28a 0 4 true).Inv := by
  refine ⟨⟨rfl, valid_ids, found_d10, rfl⟩, ⟨rfl, found_d28a, rfl⟩, ?_, ?_⟩ <;>
    exact ⟨by decide, by decide, by decide, by simp [idleWith, State.reset], fun h => absurd h (by decide),
      fun _ h => (by cases h),
      fun h => absurd h (by decide), fun h => absurd h (by decide)⟩

theorem witness_VerifyAnswersPresence :
    State.reset.Inv ∧ State.reset.fsm = .idle ∧ zeroOnlyAtZero State.reset.crc8Table ∧
      (∀ r ∈ (Bus.ofDevices [d10, d28a]).devices, validId State.reset.crc8Table r) ∧
      unpackRom 0x05000804C3B2A110 ∈ (Bus.ofDevices [d10, d28a]).devices :=
  ⟨reset_inv, rfl, default_zeroOnlyAtZero, valid_ids, by decide⟩

end Sys2Proof.Tests
end

section
/-! SUPPORT. The bits of ROM and of MASK: the masked write of the pass is the write of position P, and a position read after
a write (20_memory.md R42, 41_search.md R88). -/

namespace Sys2Proof.Machine

/-- The one-hot masks are the eight bits of a byte (10_state.md R19, R20). -/
theorem oneHot_iff (m : Byte) : oneHot m = true ↔ ∃ k : Nat, k < 8 ∧ m = 1#8 <<< k := by
  revert m; decide

/-- Setting a bit is "or MASK" (41_search.md R88), with or without clearing it first (20_memory.md R42). -/
theorem clear_or_mask (old mask : Byte) : (old &&& ~~~mask) ||| mask = old ||| mask := by
  ext i
  simp only [BitVec.getElem_or, BitVec.getElem_and, BitVec.getElem_not]
  cases mask[i] <;> simp

/-- Bit `m` of a byte after the write of bit `k` (20_memory.md R42). -/
theorem getLsbD_writeBit (old : Byte) (b : Bool) {k m : Nat} (hm : m < 8) :
    ((old &&& ~~~(1#8 <<< k)) ||| ((if b then 1#8 else 0#8) <<< k)).getLsbD m = if m = k then b else old.getLsbD m := by
  by_cases h : m = k
  · cases b <;> simp [h]; omega
  · rcases Nat.lt_or_gt_of_ne h with hlt | hgt
    · cases b <;> simp [h, hm, hlt]
    · cases b <;> simp [h, hm, Nat.sub_ne_zero_of_lt hgt]

/-- Writing a position of the id changes that bit alone (20_memory.md R42). -/
theorem romBit_setRomBit (rom : Rom) {p q : Nat} (b : Bool) (hp : 1 ≤ p ∧ p ≤ 64) (hq : 1 ≤ q ∧ q ≤ 64) :
    romBit (setRomBit rom p b) q = if q = p then b else romBit rom q := by
  have hi : (p - 1) / 8 < 8 := by omega
  have hj : (q - 1) / 8 < 8 := by omega
  have hm : (q - 1) % 8 < 8 := by omega
  have hpq : q = p ↔ (p - 1) / 8 = (q - 1) / 8 ∧ (q - 1) % 8 = (p - 1) % 8 := by omega
  simp only [romBit_of_range _ hj, setRomBit, romByte, hi, Vector.getElem?_eq_getElem, Vector.getElem_setIfInBounds, hpq]
  by_cases hij : (p - 1) / 8 = (q - 1) / 8
  · simp only [hij, if_true, true_and]
    exact getLsbD_writeBit _ _ hm
  · simp [hij]

/-- At a bit position the masked write of ROM[BYTE] is the write of position P (41_search.md R88, 10_state.md R19). -/
theorem PassRegs.positioned.storeBit_eq {p : PassRegs} (h : p.positioned) (rom : Rom) (d : Bool) :
    storeBit rom p.byte.toNat p.mask d = some (setRomBit rom p.p.toNat d) := by
  obtain ⟨k, hk, hmask, hbyte, hp⟩ := h
  have hdiv : (p.p.toNat - 1) / 8 = p.byte.toNat := by omega
  have hmod : (p.p.toNat - 1) % 8 = k := by omega
  cases d <;> simp [storeBit, setRomBit, romByte, hdiv, hmod, hbyte, hmask, clear_or_mask]

end Sys2Proof.Machine
end

section
/-! SUPPORT. What an edge can answer under the invariant, said once: `EdgeTo` has one constructor for each branch, and
`State.Inv.edgeTo` says that every edge takes one of them. -/

namespace Sys2Proof.Machine

/-- An idle block is presented a word that decodes to `r` (30_encoding.md R64). -/
structure State.Presented (s : State) (r : Except DecodeError Instr) : Prop where
  idle : s.fsm = .idle
  valid : s.inputs.cmdValid = true
  decoded : decode (.command s.inputs.cmd s.inputs.romIn) = r

/-- The response to the request of wait state `f` arrives, with ERR = `err` (10_state.md R35). -/
structure State.Responded (s : State) (f : Fsm) (err : Bool) : Prop where
  fsm : s.fsm = f
  valid : s.inputs.phyRspValid = true
  err : s.inputs.phyErr = err

/-- The second bit read at a position, in CMPB (41_search.md R85). -/
def State.withCmpb (s : State) (bit : Bool) : State := { s with pass := { s.pass with cmpb := bit } }

/-- The direction `d` chosen, written at position P, and issued (41_search.md R88). -/
def State.directed (s : State) (d : Bool) : State :=
  (State.issue
    { s with
      pass := { s.pass with dir := d }
      search := { s.search with rom := setRomBit s.search.rom s.pass.p.toNat d } }
    (Request.writeBit d)).goto .dirWait

/-- What an edge with RST = 0 can answer in a state that meets the invariant: one constructor for each branch of
30_encoding.md R64, 42_session.md R100 to R104 and 41_search.md R82 to R89, with the condition that leads there. -/
inductive EdgeTo (s : State) : State → Prop where
  | quiet (h : s.fsm = .idle ∧ s.inputs.cmdValid = false ∨ s.fsm.waiting = true ∧ s.inputs.phyRspValid = false) :
      EdgeTo s s
  | illegal {e : DecodeError} (h : s.Presented (.error e)) : EdgeTo s (s.respond .ofIllegal .illegalCommand)
  | first (h : s.Presented (.ok .first)) : EdgeTo s (s.resetToInitial.beginSearch .search)
  | next (h : s.Presented (.ok .next)) : EdgeTo s (s.beginSearch .search)
  | verify {rom : BitVec 64} (h : s.Presented (.ok (.verify rom))) :
      EdgeTo s ((s.verifySetup (unpackRom rom)).beginSearch .verify)
  | targetSetup {a : Byte} (h : s.Presented (.ok (.targetSetup a))) :
      EdgeTo s (State.respond
        { s with search := { rom := targetRom a, ld := Config.verifyLd, lfd := 0, ldf := false } } (.ofFound false) .none)
  | familySkipSetup (h : s.Presented (.ok .familySkipSetup)) :
      EdgeTo s (State.respond
        { s with
          search := { s.search with
            ld := s.search.lfd, lfd := 0, ldf := ldfAfterSkip s.search.ldf s.search.lfd } }
        (.ofFound false) .none)
  | crcStep {acc byte : Byte} (h : s.Presented (.ok (.crcStep acc byte))) :
      EdgeTo s (s.respond (.ofCrc (crc8Step s.crc8Table acc byte)) .none)
  | phyError {f : Fsm} (h : s.Responded f true) (hw : f.waiting = true) : EdgeTo s (s.fail .phyError)
  | noPresence (h : s.Responded .rstWait false) (hb : s.inputs.phyBit = false) : EdgeTo s (s.fail .busResetFailure)
  | presence (h : s.Responded .rstWait false) (hb : s.inputs.phyBit = true) :
      EdgeTo s ((s.issue (Request.writeByte Config.searchCmd)).goto .cmdWait)
  | commandByte (h : s.Responded .cmdWait false) : EdgeTo s ((s.issue Request.readBit).goto .idWait)
  | idBit (h : s.Responded .idWait false) :
      EdgeTo s ((State.issue { s with pass := { s.pass with idb := s.inputs.phyBit } } Request.readBit).goto .cmpWait)
  | violation (h : s.Responded .cmpWait false) (hb : (s.pass.idb && s.inputs.phyBit) = true) :
      EdgeTo s ((s.withCmpb s.inputs.phyBit).fail .busProtocolViolation)
  | direction {c : State} (h : s.Responded .cmpWait false) (hb : (s.pass.idb && s.inputs.phyBit) = false)
      (hc : c = s.withCmpb s.inputs.phyBit) :
      EdgeTo s ((c.recordDiscrepancy c.chooseDirection).directed c.chooseDirection)
  | nextPosition {q : PassRegs} (h : s.Responded .dirWait false)
      (hq : s.pass.advance s.crc8Table s.search.rom = some q) (hb : q.byte ≠ 8#4) :
      EdgeTo s ((State.issue { s with pass := q } Request.readBit).goto .idWait)
  | lastPosition {q : PassRegs} (h : s.Responded .dirWait false)
      (hq : s.pass.advance s.crc8Table s.search.rom = some q) (hb : q.byte = 8#4) :
      EdgeTo s (State.evaluate { s with pass := q })

/-- Where both branches of a choice decode to host commands only, so does the choice. -/
theorem isCommand_of_ite {c : Prop} [Decidable c] {x y : Except DecodeError Instr} {i : Instr}
    (hx : x = .ok i → isCommand i = true) (hy : y = .ok i → isCommand i = true) :
    (if c then x else y) = .ok i → isCommand i = true := by
  split
  · exact hx
  · exact hy

/-- The host port's decoder gives host commands only: five rejections, then the six rows of its format (30_encoding.md
R61, R64). -/
theorem isCommand_of_decode {cmd : BitVec 32} {romIn : BitVec 64} {i : Instr} :
    decode (.command cmd romIn) = .ok i → isCommand i = true := by
  have row {r : Instr} (hr : isCommand r = true) (h : (.ok r : Except DecodeError Instr) = .ok i) :
      isCommand i = true := by
    cases h; exact hr
  unfold decode decodeCommand
  iterate 5 refine isCommand_of_ite nofun ?_
  iterate 5 refine isCommand_of_ite (row rfl) ?_
  exact row rfl

/-- At a bit position the direction can be written (41_search.md R88). -/
theorem State.writeDirection_of_positioned {s : State} (h : s.pass.positioned) (d : Bool) :
    s.writeDirection d = .next (s.directed d) := by
  simp only [State.writeDirection, h.storeBit_eq, State.directed]

/-- Two ones read at a position are the protocol violation (41_search.md R85). -/
theorem State.onCmpBit_of_violation {s : State} {bit : Bool} (h : (s.pass.idb && bit) = true) :
    s.onCmpBit bit false = .next ((s.withCmpb bit).fail .busProtocolViolation) :=
  if_pos h

/-- Otherwise the direction is chosen, recorded and written (41_search.md R85). -/
theorem State.onCmpBit_of_positioned {s c : State} {bit : Bool} (hp : s.pass.positioned)
    (h : (s.pass.idb && bit) = false) (hc : c = s.withCmpb bit) :
    s.onCmpBit bit false = .next ((c.recordDiscrepancy c.chooseDirection).directed c.chooseDirection) := by
  subst hc
  have hne : ¬ (s.pass.idb && bit) = true := by simp [h]
  have hpos : ((s.withCmpb bit).recordDiscrepancy (s.withCmpb bit).chooseDirection).pass.positioned := hp
  calc s.onCmpBit bit false
      = State.writeDirection ((s.withCmpb bit).recordDiscrepancy (s.withCmpb bit).chooseDirection)
          (s.withCmpb bit).chooseDirection := if_neg hne
    _ = _ := State.writeDirection_of_positioned hpos _

/-- The pass registers one position on (41_search.md R89): the next bit of the byte, the first of the next byte, or past
position 64. -/
theorem PassRegs.positioned.advance {p : PassRegs} (h : p.positioned) (table : CrcTable) (rom : Rom) :
    ∃ q, p.advance table rom = some q ∧ q.lz = p.lz ∧ q.p.toNat = p.p.toNat + 1 ∧ q.byte.toNat ≤ 8 ∧
      oneHot q.mask = true ∧ (q.byte ≠ 8#4 → q.positioned) := by
  obtain ⟨k, hk, hmask, hbyte, hp⟩ := h
  have hp1 : (p.p + 1).toNat = p.p.toNat + 1 := by rw [BitVec.toNat_add]; simp; omega
  by_cases hlast : k = 7
  · subst hlast
    have hb1 : (p.byte + 1).toNat = p.byte.toNat + 1 := by rw [BitVec.toNat_add]; simp; omega
    refine ⟨_, PassRegs.advance_of_eq hmask hbyte, rfl, hp1, by simp only [hb1]; omega, rfl, fun h8 => ?_⟩
    have : p.byte.toNat + 1 ≠ 8 := fun h => h8 (BitVec.eq_of_toNat_eq (hb1.trans h))
    exact ⟨0, by decide, rfl, by simp only [hb1]; omega, by simp only [hp1, hb1]; omega⟩
  · have hnext : p.mask <<< 1 = 1#8 <<< (k + 1) := by rw [hmask, BitVec.shiftLeft_add]
    have hseven : ∀ j < 8, 1#8 <<< j = 0x80#8 → j = 7 := by decide
    have hne : p.mask ≠ 0x80#8 := fun h80 => hlast (hseven k hk (hmask ▸ h80))
    exact ⟨_, PassRegs.advance_of_ne hne, rfl, hp1, by simp only; omega,
      (oneHot_iff _).mpr ⟨k + 1, by omega, hnext⟩,
      fun _ => ⟨k + 1, by omega, hnext, hbyte, by simp only [hp1]; omega⟩⟩

/-- An edge in IDLE answers a next state, the one of its branch. -/
theorem edgeTo_of_idle {s : State} (h : s.Inv) (hr : s.inputs.rst = false) (hf : s.fsm = .idle) :
    ∃ t, edge s = .next t ∧ EdgeTo s t := by
  have ha {r : Result} : s.accept r = r := State.accept_of_accepting ⟨h.range, hf, hr⟩
  rw [edge_idle s hf]
  by_cases hv : s.inputs.cmdValid = true
  · rw [if_pos hv]
    cases hd : decode (.command s.inputs.cmd s.inputs.romIn) with
    | error e => exact ⟨_, ha, .illegal ⟨hf, hv, hd⟩⟩
    | ok i =>
      have hc := isCommand_of_decode hd
      cases i with
      | first => exact ⟨_, ha, .first ⟨hf, hv, hd⟩⟩
      | next => exact ⟨_, ha, .next ⟨hf, hv, hd⟩⟩
      | verify rom => exact ⟨_, ha, .verify ⟨hf, hv, hd⟩⟩
      | targetSetup a => exact ⟨_, ha, .targetSetup ⟨hf, hv, hd⟩⟩
      | familySkipSetup => exact ⟨_, ha, .familySkipSetup ⟨hf, hv, hd⟩⟩
      | crcStep acc byte => exact ⟨_, ha, .crcStep ⟨hf, hv, hd⟩⟩
      | phyResetBus | phyWriteBit | phyReadBit | phyWriteByte => cases hc
  · rw [if_neg hv]
    exact ⟨s, State.guarded_of_inRange h.range, .quiet (.inl ⟨hf, by simpa using hv⟩)⟩

/-- RST_WAIT answers a failure or the search command byte (41_search.md R82). -/
theorem edgeTo_onReset {s : State} (hf : s.fsm = .rstWait) (hv : s.inputs.phyRspValid = true) :
    EdgeTo s (s.onReset s.inputs.phyBit s.inputs.phyErr) := by
  cases he : s.inputs.phyErr
  · cases hb : s.inputs.phyBit
    · exact .noPresence ⟨hf, hv, he⟩ hb
    · exact .presence ⟨hf, hv, he⟩ hb
  · exact .phyError ⟨hf, hv, he⟩ rfl

/-- CMD_WAIT answers a failure or the first read of position 1 (41_search.md R83). -/
theorem edgeTo_onCommandByte {s : State} (hf : s.fsm = .cmdWait) (hv : s.inputs.phyRspValid = true) :
    EdgeTo s (s.onCommandByte s.inputs.phyErr) := by
  cases he : s.inputs.phyErr
  · exact .commandByte ⟨hf, hv, he⟩
  · exact .phyError ⟨hf, hv, he⟩ rfl

/-- ID_WAIT answers a failure or the second read (41_search.md R84). -/
theorem edgeTo_onIdBit {s : State} (hf : s.fsm = .idWait) (hv : s.inputs.phyRspValid = true) :
    EdgeTo s (s.onIdBit s.inputs.phyBit s.inputs.phyErr) := by
  cases he : s.inputs.phyErr
  · exact .idBit ⟨hf, hv, he⟩
  · exact .phyError ⟨hf, hv, he⟩ rfl

/-- CMP_WAIT answers a failure, the protocol violation of two ones (41_search.md R85), or the WRITE_BIT of the direction
chosen. -/
theorem edgeTo_onCmpBit {s : State} (hp : s.pass.positioned) (hf : s.fsm = .cmpWait)
    (hv : s.inputs.phyRspValid = true) :
    ∃ t, s.onCmpBit s.inputs.phyBit s.inputs.phyErr = .next t ∧ EdgeTo s t := by
  cases he : s.inputs.phyErr
  · cases hb : s.pass.idb && s.inputs.phyBit
    · exact ⟨_, State.onCmpBit_of_positioned hp hb rfl, .direction ⟨hf, hv, he⟩ hb rfl⟩
    · exact ⟨_, State.onCmpBit_of_violation hb, .violation ⟨hf, hv, he⟩ hb⟩
  · exact ⟨_, rfl, .phyError ⟨hf, hv, he⟩ rfl⟩

/-- DIR_WAIT answers a failure, the first read of the next position, or the evaluation after position 64 (41_search.md
R89). -/
theorem edgeTo_onDirection {s : State} (hp : s.pass.positioned) (hf : s.fsm = .dirWait)
    (hv : s.inputs.phyRspValid = true) : ∃ t, s.onDirection s.inputs.phyErr = .next t ∧ EdgeTo s t := by
  obtain ⟨q, hq, -⟩ := hp.advance s.crc8Table s.search.rom
  cases he : s.inputs.phyErr
  · simp only [State.onDirection, hq]
    by_cases hb : q.byte = 8#4
    · exact ⟨_, if_pos hb, .lastPosition ⟨hf, hv, he⟩ hq hb⟩
    · exact ⟨_, if_neg hb, .nextPosition ⟨hf, hv, he⟩ hq hb⟩
  · exact ⟨_, rfl, .phyError ⟨hf, hv, he⟩ rfl⟩

/-- An edge in a wait state answers a next state, the one of its branch. -/
theorem edgeTo_of_waiting {s : State} (h : s.Inv) (hr : s.inputs.rst = false) (hw : s.fsm.waiting = true) :
    ∃ t, edge s = .next t ∧ EdgeTo s t := by
  rw [edge_waiting s h hw hr]
  by_cases hv : s.inputs.phyRspValid = true
  · rw [if_pos hv]
    cases hf : s.fsm with
    | rstWait => exact ⟨_, rfl, edgeTo_onReset hf hv⟩
    | cmdWait => exact ⟨_, rfl, edgeTo_onCommandByte hf hv⟩
    | idWait => exact ⟨_, rfl, edgeTo_onIdBit hf hv⟩
    | cmpWait => exact edgeTo_onCmpBit (h.position (by rw [hf]; rfl)) hf hv
    | dirWait => exact edgeTo_onDirection (h.position (by rw [hf]; rfl)) hf hv
    | idle | bad6 | bad7 => rw [hf] at hw; cases hw
  · rw [if_neg hv]
    exact ⟨s, rfl, .quiet (.inr ⟨hw, by simpa using hv⟩)⟩

/-- An edge from a state that meets the invariant answers a next state, the one of its branch. -/
theorem State.Inv.edgeTo {s : State} (h : s.Inv) (hr : s.inputs.rst = false) :
    ∃ t, edge s = .next t ∧ EdgeTo s t :=
  h.idle_or_waiting.elim (edgeTo_of_idle h hr) (edgeTo_of_waiting h hr)

end Sys2Proof.Machine
end

section
/-! SUPPORT. The invariant through every branch of an edge, and so through every step (10_state.md R19, R20, R26). -/

namespace Sys2Proof.Machine

/-- LD and LFD in their ranges (10_state.md R20), as SearchState or as its saved copy. -/
structure SearchState.InRange (x : SearchState) : Prop where
  ld : x.ld.toNat ≤ 64
  lfd : x.lfd.toNat ≤ 8

/-- LZ, P, BYTE and MASK in their ranges (10_state.md R20). -/
structure PassRegs.InRange (p : PassRegs) : Prop where
  lz : p.lz.toNat ≤ 64
  pLow : 1 ≤ p.p.toNat
  pHigh : p.p.toNat ≤ 65
  byte : p.byte.toNat ≤ 8
  mask : oneHot p.mask = true

/-- The part of the invariant that does not depend on FSM. -/
structure State.InBounds (s : State) : Prop where
  search : s.search.InRange
  saved : s.saved.InRange
  pass : s.pass.InRange

/-- The registers in bounds and FSM in 0..5 are the ranges of 10_state.md R20. -/
theorem State.InBounds.inRange {s : State} (h : s.InBounds) (hf : s.fsm.legal = true) : s.inRange = true :=
  s.inRange_iff.mpr
    ⟨h.search.ld, h.search.lfd, h.pass.lz, h.pass.pLow, h.pass.pHigh, h.pass.byte, h.pass.mask, hf⟩

/-- The invariant holds the bounds, of the saved copies too. -/
theorem State.Inv.inBounds {s : State} (h : s.Inv) : s.InBounds := by
  obtain ⟨hld, hlfd, hlz, hp, hp', hbyte, hmask, -⟩ := s.inRange_iff.mp h.range
  exact ⟨⟨hld, hlfd⟩, ⟨h.savedLd, h.savedLfd⟩, ⟨hlz, hp, hp', hbyte, hmask⟩⟩

/-- The start values of pass_init are in range (41_search.md R81). -/
theorem PassRegs.inRange_of_start {p : PassRegs} (hlz : p.lz.toNat ≤ 64)
    (h : p.p = 1#7 ∧ p.byte = 0#4 ∧ p.mask = 1#8) : p.InRange := by
  obtain ⟨hp, hbyte, hmask⟩ := h
  exact ⟨hlz, by simp [hp], by simp [hp], by simp [hbyte], by rw [hmask]; rfl⟩

/-- The start values of pass_init are those of position 1 (41_search.md R81, 10_state.md R19). -/
theorem PassRegs.positioned_of_start {p : PassRegs} (h : p.p = 1#7 ∧ p.byte = 0#4 ∧ p.mask = 1#8) :
    p.positioned := by
  obtain ⟨hp, hbyte, hmask⟩ := h
  exact ⟨0, by decide, hmask, by simp [hbyte], by simp [hp, hbyte]⟩

/-- P is one of the 64 positions of the id (10_state.md R19). -/
theorem PassRegs.positioned.p_bounds {p : PassRegs} (h : p.positioned) : 1 ≤ p.p.toNat ∧ p.p.toNat ≤ 64 := by
  obtain ⟨k, hk, -, hbyte, hp⟩ := h
  omega

/-- P, BYTE and MASK of a bit position are in range (10_state.md R19, R20). -/
theorem PassRegs.positioned.inRange {p : PassRegs} (h : p.positioned) (hlz : p.lz.toNat ≤ 64) : p.InRange := by
  obtain ⟨hlow, hhigh⟩ := h.p_bounds
  obtain ⟨k, hk, hmask, hbyte, -⟩ := h
  exact ⟨hlz, hlow, by omega, hbyte.le, (oneHot_iff _).mpr ⟨k, hk, hmask⟩⟩

/-! ### The invariant by wait state -/

/-- In IDLE the bounds are the whole invariant. -/
theorem State.InBounds.inv_of_idle {s : State} (h : s.InBounds) (hf : s.fsm = .idle) : s.Inv where
  range := h.inRange (by rw [hf]; rfl)
  savedLd := h.saved.ld
  savedLfd := h.saved.lfd
  start := by simp [hf]
  position := by simp [hf, Fsm.inLoop]
  request := by simp [State.awaited, hf]
  stored := by simp [hf]
  notExhausted := by simp [hf, Fsm.waiting]

/-- Before the first bit position the invariant asks for the start values, the request and LDF = 0. -/
theorem State.InBounds.inv_of_start {s : State} (h : s.InBounds) (hf : s.fsm = .rstWait ∨ s.fsm = .cmdWait)
    (hstart : s.pass.p = 1#7 ∧ s.pass.byte = 0#4 ∧ s.pass.mask = 1#8) (hreq : s.awaited = some s.phyReq)
    (hldf : s.search.ldf = false) : s.Inv where
  range := h.inRange (by rcases hf with hf | hf <;> rw [hf] <;> rfl)
  savedLd := h.saved.ld
  savedLfd := h.saved.lfd
  start := fun _ => hstart
  position := by rcases hf with hf | hf <;> simp [hf, Fsm.inLoop]
  request := fun w hw => Option.some.inj (hreq.symm.trans hw)
  stored := by rcases hf with hf | hf <;> simp [hf]
  notExhausted := fun _ => hldf

/-- A wait state of a bit position is one of FSM's six states (10_state.md R26). -/
theorem Fsm.legal_of_inLoop {f : Fsm} (h : f.inLoop = true) : f.legal = true := by
  cases f with
  | idWait | cmpWait | dirWait => rfl
  | _ => cases h

/-- At a bit position the invariant asks for the agreement of P, BYTE and MASK, the request, the stored bit and LDF = 0. -/
theorem State.InBounds.inv_of_inLoop {s : State} (h : s.InBounds) (hf : s.fsm.inLoop = true)
    (hpos : s.pass.positioned) (hreq : s.awaited = some s.phyReq)
    (hstored : s.fsm = .dirWait → romBit s.search.rom s.pass.p.toNat = s.pass.dir)
    (hldf : s.search.ldf = false) : s.Inv where
  range := h.inRange (Fsm.legal_of_inLoop hf)
  savedLd := h.saved.ld
  savedLfd := h.saved.lfd
  start := by rintro (hs | hs) <;> rw [hs] at hf <;> cases hf
  position := fun _ => hpos
  request := fun w hw => Option.some.inj (hreq.symm.trans hw)
  stored := hstored
  notExhausted := fun _ => hldf

/-! ### The end of a command keeps the bounds -/

/-- `reset_to_initial` keeps the bounds (10_state.md R17). -/
theorem State.InBounds.resetToInitial {s : State} (h : s.InBounds) : s.resetToInitial.InBounds :=
  ⟨⟨by simp, by simp⟩, h.saved, h.pass⟩

/-- VERIFY's restore is within bounds because the saved copies are (41_search.md R92). -/
theorem State.InBounds.finish {s : State} (h : s.InBounds) (found : Bool) (l : Label) :
    (s.finish found l).InBounds where
  search := by
    rw [State.finish_searchState]
    cases s.mode
    · exact h.search
    · exact h.saved
  saved := by simpa using h.saved
  pass := by simpa using h.pass

/-- A command's end in bounds meets the invariant (41_search.md R92). -/
theorem State.InBounds.finish_inv {s : State} (h : s.InBounds) (found : Bool) (l : Label) :
    (s.finish found l).Inv :=
  (h.finish found l).inv_of_idle (State.finish_fsm ..)

/-- A failure in bounds meets the invariant (60_exceptions.md R131). -/
theorem State.InBounds.fail_inv {s : State} (h : s.InBounds) (l : Label) : (s.fail l).Inv :=
  h.resetToInitial.finish_inv false l

/-- LD = LZ is in range after a success (41_search.md R91). -/
theorem State.InBounds.succeed_inv {s : State} (h : s.InBounds) : s.succeed.Inv :=
  State.InBounds.finish_inv
    (s := { s with search := { s.search with ld := s.pass.lz, ldf := ldfAfterSuccess s.search.ldf s.pass.lz } })
    ⟨⟨h.pass.lz, h.search.lfd⟩, h.saved, h.pass⟩ true .none

/-- Every end of `evaluate` in bounds meets the invariant (41_search.md R90). -/
theorem State.InBounds.evaluate_inv {s : State} (h : s.InBounds) : s.evaluate.Inv := by
  rcases s.evaluate_cases with ⟨-, he⟩ | ⟨-, -, he⟩ | ⟨-, -, he⟩ <;> rw [he]
  · exact h.fail_inv _
  · exact h.fail_inv _
  · exact h.succeed_inv

/-! ### The start of a pass -/

/-- RST_WAIT begins with the start values and RESET_BUS outstanding (41_search.md R81). -/
theorem State.InBounds.passInit_inv {s : State} (h : s.InBounds) (hldf : s.search.ldf = false) : s.passInit.Inv :=
  State.InBounds.inv_of_start ⟨h.search, h.saved, PassRegs.inRange_of_start (by simp) ⟨rfl, rfl, rfl⟩⟩
    (.inl rfl) ⟨rfl, rfl, rfl⟩ rfl hldf

/-- The two branches of begin_search (41_search.md R80). -/
theorem State.beginSearch_cases (s : State) (m : Mode) :
    s.search.ldf = true ∧ s.beginSearch m = State.finish { s with mode := m } false .exhausted ∨
      s.search.ldf = false ∧ s.beginSearch m = State.passInit { s with mode := m } := by
  cases hl : s.search.ldf
  · exact .inr ⟨rfl, by simp [State.beginSearch, hl]⟩
  · exact .inl ⟨rfl, by simp [State.beginSearch, hl]⟩

/-- `begin_search` meets the invariant, as a command's end or as a pass's start (41_search.md R80). -/
theorem State.InBounds.beginSearch_inv {s : State} (h : s.InBounds) (m : Mode) : (s.beginSearch m).Inv := by
  have hm : State.InBounds { s with mode := m } := ⟨h.search, h.saved, h.pass⟩
  rcases s.beginSearch_cases m with ⟨-, he⟩ | ⟨hldf, he⟩ <;> rw [he]
  · exact hm.finish_inv false .exhausted
  · exact hm.passInit_inv hldf

/-- VERIFY's save keeps LD and LFD in range (42_session.md R102). -/
theorem State.InBounds.verifySetup {s : State} (h : s.InBounds) (rom : Rom) : (s.verifySetup rom).InBounds :=
  ⟨⟨by simp [Config.verifyLd], h.search.lfd⟩, h.search, h.pass⟩

/-! ### The bit positions -/

/-- `record_discrepancy` keeps the bounds: P is at most 64, and goes to LFD at most 8 (41_search.md R87). -/
theorem State.InBounds.recordDiscrepancy {s : State} (h : s.InBounds) (hp : s.pass.positioned) (d : Bool) :
    (s.recordDiscrepancy d).InBounds where
  search := by
    refine ⟨h.search.ld, ?_⟩
    simp only [State.recordDiscrepancy]
    split
    · simp_all
    · exact h.search.lfd
  saved := h.saved
  pass := by
    refine PassRegs.positioned.inRange hp ?_
    simp only [State.recordDiscrepancy]
    split
    · exact hp.p_bounds.2
    · exact h.pass.lz

/-- CMPB has no range (10_state.md R22). -/
theorem State.InBounds.withCmpb {s : State} (h : s.InBounds) (bit : Bool) : (s.withCmpb bit).InBounds :=
  ⟨h.search, h.saved, ⟨h.pass.lz, h.pass.pLow, h.pass.pHigh, h.pass.byte, h.pass.mask⟩⟩

/-- DIR_WAIT begins with the direction stored at position P (41_search.md R88). -/
theorem State.InBounds.directed_inv {s : State} (h : s.InBounds) (hp : s.pass.positioned) (hldf : s.search.ldf = false)
    (d : Bool) : (s.directed d).Inv :=
  State.InBounds.inv_of_inLoop ⟨⟨h.search.ld, h.search.lfd⟩, h.saved, PassRegs.positioned.inRange hp h.pass.lz⟩ rfl hp
    (by cases d <;> rfl)
    (fun _ => (romBit_setRomBit _ _ hp.p_bounds hp.p_bounds).trans (if_pos rfl)) hldf

/-- The counters stay in range one position on, and are at a bit position until BYTE is 8 (41_search.md R89). -/
theorem PassRegs.positioned.of_advance {p q : PassRegs} {table : CrcTable} {rom : Rom} (h : p.positioned)
    (hlz : p.lz.toNat ≤ 64) (hq : p.advance table rom = some q) :
    q.InRange ∧ (q.byte ≠ 8#4 → q.positioned) := by
  obtain ⟨q', hq', hlz', hp, hbyte, hmask, hpos⟩ := h.advance table rom
  obtain rfl : q' = q := Option.some.inj (hq'.symm.trans hq)
  have hbound := h.p_bounds.2
  exact ⟨⟨hlz' ▸ hlz, by omega, by omega, hbyte, hmask⟩, hpos⟩

/-! ### The branches of an edge -/

/-- A response is taken in the wait state of its request. -/
theorem State.Responded.waiting {s : State} {f : Fsm} {err : Bool} (h : s.Responded f err) (hf : f.waiting = true) :
    s.fsm.waiting = true := by
  rw [h.fsm]; exact hf

/-- A response taken at a bit position finds P, BYTE and MASK in agreement (10_state.md R19). -/
theorem State.Responded.positioned {s : State} {f : Fsm} {err : Bool} (hr : s.Responded f err) (h : s.Inv)
    (hf : f.inLoop = true) : s.pass.positioned :=
  h.position (by rw [hr.fsm]; exact hf)

/-- Every branch of an edge keeps the invariant: a command's end and a pass's start by their bounds, a response by the
wait state it leads to. -/
theorem EdgeTo.inv {s t : State} (h : s.Inv) (he : EdgeTo s t) : t.Inv := by
  have hb := h.inBounds
  cases he with
  | quiet => exact h
  | illegal hc => exact State.InBounds.inv_of_idle ⟨hb.search, hb.saved, hb.pass⟩ hc.idle
  | first => exact hb.resetToInitial.beginSearch_inv _
  | next => exact hb.beginSearch_inv _
  | verify => exact (hb.verifySetup _).beginSearch_inv _
  | targetSetup hc =>
    exact State.InBounds.inv_of_idle ⟨⟨by simp [Config.verifyLd], by simp⟩, hb.saved, hb.pass⟩ hc.idle
  | familySkipSetup hc =>
    exact State.InBounds.inv_of_idle ⟨⟨hb.search.lfd.trans (by decide), by simp⟩, hb.saved, hb.pass⟩ hc.idle
  | crcStep hc => exact State.InBounds.inv_of_idle ⟨hb.search, hb.saved, hb.pass⟩ hc.idle
  | phyError | noPresence => exact hb.fail_inv _
  | violation => exact (hb.withCmpb _).fail_inv _
  | presence hp =>
    exact State.InBounds.inv_of_start ⟨hb.search, hb.saved, hb.pass⟩ (.inr rfl) (h.start (.inl hp.fsm)) rfl
      (h.notExhausted (hp.waiting rfl))
  | commandByte hp =>
    exact State.InBounds.inv_of_inLoop ⟨hb.search, hb.saved, hb.pass⟩ rfl
      (PassRegs.positioned_of_start (h.start (.inr hp.fsm))) rfl
      (fun hd => by cases hd) (h.notExhausted (hp.waiting rfl))
  | idBit hp =>
    have hpos := hp.positioned h rfl
    exact State.InBounds.inv_of_inLoop ⟨hb.search, hb.saved, PassRegs.positioned.inRange hpos hb.pass.lz⟩ rfl hpos rfl
      (fun hd => by cases hd) (h.notExhausted (hp.waiting rfl))
  | direction hp _ hc =>
    subst hc
    have hpos := hp.positioned h rfl
    exact ((hb.withCmpb s.inputs.phyBit).recordDiscrepancy hpos _).directed_inv hpos (h.notExhausted (hp.waiting rfl)) _
  | nextPosition hp hq h8 =>
    obtain ⟨hpos, hq'⟩ := (hp.positioned h rfl).of_advance hb.pass.lz hq
    exact State.InBounds.inv_of_inLoop ⟨hb.search, hb.saved, hpos⟩ rfl (hq' h8) rfl
      (fun hd => by cases hd) (h.notExhausted (hp.waiting rfl))
  | lastPosition hp hq =>
    exact State.InBounds.evaluate_inv
      ⟨hb.search, hb.saved, ((hp.positioned h rfl).of_advance hb.pass.lz hq).1⟩

/-! ### Steps and reset -/

/-- The state after reset is in bounds (10_state.md R36). -/
theorem State.reset_inBounds : State.reset.InBounds :=
  ⟨⟨by decide, by decide⟩, ⟨by decide, by decide⟩, ⟨by decide, by decide, by decide, by decide, by decide⟩⟩

/-- The state after reset meets the invariant (10_state.md R36). -/
theorem State.reset_inv : State.reset.Inv := State.reset_inBounds.inv_of_idle rfl

/-- An edge with RST = 1 leaves a state that meets the invariant (70_reset_and_hazards.md R151). -/
theorem State.resetEdge_inv (s : State) : s.resetEdge.Inv :=
  State.InBounds.inv_of_idle
    ⟨State.reset_inBounds.search, State.reset_inBounds.saved, State.reset_inBounds.pass⟩ rfl

/-- A step with RST = 1 (70_reset_and_hazards.md R151). -/
theorem step_of_rst {s : State} (hr : s.inputs.rst = true) : step s = .next s.resetEdge.nextInputs := if_pos hr

/-- A step without RST under the invariant answers the branch of its edge, with the inputs moved on. -/
theorem State.Inv.step_of_no_rst {s : State} (h : s.Inv) (hr : s.inputs.rst = false) :
    ∃ u, step s = .next u.nextInputs ∧ EdgeTo s.beginEdge u := by
  obtain ⟨u, hu, he⟩ := h.beginEdge.edgeTo hr
  exact ⟨u, by simp [step, hr, hu], he⟩

/-- What a step can do under the invariant: reset, or the branch of its edge. -/
theorem State.Inv.step_cases {s : State} (h : s.Inv) :
    s.inputs.rst = true ∧ step s = .next s.resetEdge.nextInputs ∨
      s.inputs.rst = false ∧ ∃ u, step s = .next u.nextInputs ∧ EdgeTo s.beginEdge u := by
  cases hr : s.inputs.rst
  · exact .inr ⟨rfl, h.step_of_no_rst hr⟩
  · exact .inl ⟨rfl, step_of_rst hr⟩

end Sys2Proof.Machine
end

section
/-! SUPPORT. What each branch of an edge does to the response registers (10_state.md R30), and the range check before every
meaning (10_state.md R20). -/

namespace Sys2Proof.Machine

/-! ### Responses -/

/-- The input levels are no part of RSP (10_state.md R30). -/
@[simp] theorem State.nextInputs_rspWord (s : State) : s.nextInputs.rspWord = s.rspWord := by
  simp [State.rspWord]

/-- A block that waits is not IDLE (10_state.md R26). -/
theorem Fsm.ne_idle_of_waiting {f : Fsm} (h : f.waiting = true) : f ≠ .idle := by
  rintro rfl; cases h

/-- `t` ends a command begun or in progress in `s`: IDLE, RSP_VALID raised and one response put out (10_state.md R30). -/
def State.EndsCommand (s t : State) : Prop :=
  t.fsm = .idle ∧ t.rspValid = true ∧ ∃ l, t.trace = .response t.rspWord l :: s.trace

/-- `t` is in a pass and has put out no response after `s` (10_state.md R30). -/
def State.GoesOn (s t : State) : Prop := t.fsm.waiting = true ∧ t.rspValid = s.rspValid ∧ t.rsp = s.rsp

/-- A response in IDLE ends the command it answers (10_state.md R30). -/
theorem State.respond_endsCommand {s : State} (hf : s.fsm = .idle) (r : Response) (l : Label) :
    s.EndsCommand (s.respond r l) := ⟨hf, rfl, l, rfl⟩

/-- `finish` ends the command in either mode (41_search.md R92). -/
theorem State.finish_endsCommand (s : State) (found : Bool) (l : Label) : s.EndsCommand (s.finish found l) := by
  refine ⟨State.finish_fsm .., State.finish_rspValid .., l, ?_⟩
  unfold State.finish
  split <;> rfl

/-- A failure ends the command (60_exceptions.md R131). -/
theorem State.fail_endsCommand (s : State) (l : Label) : s.EndsCommand (s.fail l) :=
  s.resetToInitial.finish_endsCommand false l

/-- `evaluate` ends the command, found or not (41_search.md R90, R91). -/
theorem State.evaluate_endsCommand (s : State) : s.EndsCommand s.evaluate := by
  rcases s.evaluate_cases with ⟨-, he⟩ | ⟨-, -, he⟩ | ⟨-, -, he⟩ <;> rw [he]
  · exact s.fail_endsCommand _
  · exact s.fail_endsCommand _
  · exact State.finish_endsCommand _ _ _

/-- `begin_search` answers at once where LDF = 1, and else begins a pass (41_search.md R80). -/
theorem State.beginSearch_endsCommand_or_goesOn (s : State) (m : Mode) :
    s.EndsCommand (s.beginSearch m) ∨ s.GoesOn (s.beginSearch m) := by
  rcases s.beginSearch_cases m with ⟨-, he⟩ | ⟨-, he⟩ <;> rw [he]
  · exact .inl (State.finish_endsCommand { s with mode := m } false .exhausted)
  · exact .inr ⟨rfl, rfl, rfl⟩

/-- What a branch of an edge does to the response registers: nothing presented leaves them alone, and otherwise either
the command presented or in progress ends, or a pass goes on. -/
theorem EdgeTo.response_cases {s t : State} (h : EdgeTo s t) :
    (s.fsm = .idle ∧ s.inputs.cmdValid = false ∨ s.fsm.waiting = true ∧ s.inputs.phyRspValid = false) ∧ t = s ∨
      (s.fsm = .idle ∧ s.inputs.cmdValid = true ∨ s.fsm.waiting = true) ∧ (s.EndsCommand t ∨ s.GoesOn t) := by
  cases h with
  | quiet hq => exact .inl ⟨hq, rfl⟩
  | illegal hc | crcStep hc => exact .inr ⟨.inl ⟨hc.idle, hc.valid⟩, .inl (State.respond_endsCommand hc.idle _ _)⟩
  | targetSetup hc | familySkipSetup hc => exact .inr ⟨.inl ⟨hc.idle, hc.valid⟩, .inl ⟨hc.idle, rfl, .none, rfl⟩⟩
  | first hc =>
    exact .inr ⟨.inl ⟨hc.idle, hc.valid⟩, s.resetToInitial.beginSearch_endsCommand_or_goesOn .search⟩
  | next hc => exact .inr ⟨.inl ⟨hc.idle, hc.valid⟩, s.beginSearch_endsCommand_or_goesOn .search⟩
  | verify hc =>
    exact .inr ⟨.inl ⟨hc.idle, hc.valid⟩, (s.verifySetup _).beginSearch_endsCommand_or_goesOn .verify⟩
  | phyError hp hw => exact .inr ⟨.inr (hp.waiting hw), .inl (s.fail_endsCommand _)⟩
  | noPresence hp => exact .inr ⟨.inr (hp.waiting rfl), .inl (s.fail_endsCommand _)⟩
  | violation hp => exact .inr ⟨.inr (hp.waiting rfl), .inl ((s.withCmpb s.inputs.phyBit).fail_endsCommand _)⟩
  | presence hp | commandByte hp | idBit hp | nextPosition hp =>
    exact .inr ⟨.inr (hp.waiting rfl), .inr ⟨rfl, rfl, rfl⟩⟩
  | direction hp _ hc => exact .inr ⟨.inr (hp.waiting rfl), .inr ⟨rfl, by rw [hc]; rfl, by rw [hc]; rfl⟩⟩
  | @lastPosition q hp => exact .inr ⟨.inr (hp.waiting rfl), .inl (State.evaluate_endsCommand { s with pass := q })⟩

/-! ### The range check -/

/-- Every meaning begins with the range check, so out of range every instruction faults (10_state.md R20). -/
theorem exec_of_not_inRange {s : State} (h : s.inRange = false) (i : Instr) : exec i s = .fault .outOfRange := by
  cases i <;> exact State.guarded_of_not_inRange h

/-- Out of range an edge faults, whatever the ports offer (10_state.md R20). -/
theorem edge_of_not_inRange {s : State} (h : s.inRange = false) : edge s = .fault .outOfRange := by
  unfold edge
  cases fetch s with
  | run i => exact exec_of_not_inRange h i
  | quiet | illegal | stray => exact State.guarded_of_not_inRange h

/-- FSM in 0..5 by its code (10_state.md R26). -/
theorem Fsm.code_lt_of_legal {f : Fsm} (h : f.legal = true) : f.code.toNat < 6 := by
  cases f with
  | bad6 | bad7 => cases h
  | _ => decide

end Sys2Proof.Machine
end

section
/-! The obligations on the state: reset, the ranges, the invariant, and one response for each command. -/

namespace Sys2Proof.Machine

/-- Settles O42: each branch of an edge keeps the invariant, and so do reset and the move of the inputs. -/
theorem invariantKept : Obligations.InvariantKept := by
  intro s t h hstep
  rcases h.step_cases with ⟨-, hs⟩ | ⟨-, u, hs, he⟩ <;> cases hs.symm.trans hstep
  · exact s.resetEdge_inv.nextInputs
  · exact (he.inv h.beginEdge).nextInputs

/-- Settles O43: reset answers a next state, and so does each branch of an edge. -/
theorem noFaultUnderInvariant : Obligations.NoFaultUnderInvariant := by
  intro s h
  rcases h.step_cases with ⟨-, hs⟩ | ⟨-, u, hs, -⟩
  · exact ⟨s.resetEdge.nextInputs, hs⟩
  · exact ⟨u.nextInputs, hs⟩

/-- Settles O6: each condition breaks the range check, and the check stands before every meaning. -/
theorem outOfRangeStepFaults : Obligations.OutOfRangeStepFaults := by
  intro s hr hout
  have hnot : s.beginEdge.inRange = false := by
    rw [Bool.eq_false_iff]
    intro hin
    obtain ⟨hld, hlfd, hlz, hp, hp', hbyte, hmask, hfsm⟩ := s.inRange_iff.mp hin
    obtain ⟨k, hk, hmask⟩ := (oneHot_iff _).mp hmask
    have hcode := Fsm.code_lt_of_legal hfsm
    have hone : ¬ ∀ k : Nat, s.pass.mask ≠ 1#8 <<< k ∨ 8 ≤ k := fun hm => (hm k).elim (· hmask) (by omega)
    simp only [hone, false_or] at hout
    omega
  simp [step, hr, edge_of_not_inRange hnot, mapNext]

/-- Settles O53: nothing presented leaves the response registers alone, a pass that goes on is not IDLE, and the end of
a command is IDLE with RSP_VALID and its response in the trace. -/
theorem oneResponsePerCommand : Obligations.OneResponsePerCommand := by
  intro s t h hr hstep
  obtain ⟨u, hs, he⟩ := h.step_of_no_rst hr
  obtain rfl : u.nextInputs = t := by simpa using hs.symm.trans hstep
  simp only [State.nextInputs_rspValid, State.nextInputs_fsm, State.nextInputs_rsp, State.nextInputs_trace,
    State.nextInputs_rspWord]
  rcases he.response_cases with ⟨hq, rfl⟩ | ⟨hc, ⟨hi, hraised, hl⟩ | ⟨hw, hpulse, hkept⟩⟩
  · refine ⟨?_, fun _ => rfl, fun hv => by cases hv⟩
    simp only [State.beginEdge_fsm, State.beginEdge_inputs] at hq
    rcases hq with ⟨hidle, hnone⟩ | ⟨hwait, -⟩
    · simp [hidle, hnone, Fsm.waiting]
    · simp [Fsm.ne_idle_of_waiting hwait]
  · refine ⟨iff_of_true hraised (hc.imp (fun ⟨hidle, hv⟩ => ⟨hidle, hv, hi⟩) fun hwait => ⟨hwait, hi⟩),
      fun hlow => ?_, fun _ => hl⟩
    cases hraised.symm.trans hlow
  · have hlow : u.rspValid = false := hpulse
    exact ⟨by simp [hlow, Fsm.ne_idle_of_waiting hw], fun _ => hkept, fun hv => by cases hlow.symm.trans hv⟩

/-- Settles O1: reset and an edge with RST = 1 leave the same registers, and the move of the inputs writes none. -/
theorem resetRegisterValues : Obligations.ResetRegisterValues := by
  rintro t (rfl | ⟨s, hr, hs⟩)
  · exact ⟨rfl, rfl, rfl, rfl, rfl, rfl, rfl, fun _ => rfl, rfl, rfl⟩
  · obtain rfl : t = s.resetEdge.nextInputs := by simpa using hs.symm.trans (step_of_rst hr)
    have hready (hr : s.resetEdge.nextInputs.inputs.rst = false) : s.resetEdge.nextInputs.cmdReady = true :=
      (State.cmdReady_iff _).mpr ⟨State.nextInputs_fsm _, hr⟩
    exact ⟨State.nextInputs_search _, State.nextInputs_pass _, congrArg Mode.code (State.nextInputs_mode _),
      State.nextInputs_saved _, State.nextInputs_vrom _, congrArg Fsm.code (State.nextInputs_fsm _),
      State.nextInputs_rsp _, hready, State.nextInputs_rspValid _, State.nextInputs_phyReqValid _⟩

/-- Settles O41: the reset state is IDLE, in bounds, with an empty trace. -/
theorem invariantAtReset : Obligations.InvariantAtReset :=
  ⟨State.reset_inv, rfl, fun h => by cases h⟩

end Sys2Proof.Machine
end

section
/-! SUPPORT. The packed form of a ROM id, bit by bit (20_memory.md R43, 30_encoding.md R62), and the counters that go with
bit position P (10_state.md R19, 41_search.md R89). -/

namespace Sys2Proof.Machine

/-! ### The 64-bit packing -/

/-- A byte moved up by j bytes has its bits in byte j, and zeros in every other. -/
theorem getLsbD_byte_shiftLeft (b : Byte) (j : Nat) {k m : Nat} (hk : k < 8) (hm : m < 8) :
    (b.setWidth 64 <<< (8 * j)).getLsbD (8 * k + m) = (decide (k = j) && b.getLsbD m) := by
  rw [BitVec.getLsbD_shiftLeft, BitVec.getLsbD_setWidth]
  rcases Nat.lt_trichotomy k j with h | rfl | h
  · have hbelow : 8 * k + m < 8 * j := by omega
    simp [hbelow, h.ne]
  · have hin : 8 * k + m < 64 ∧ m < 64 := by omega
    simp [hin]
  · have habove : 8 ≤ 8 * k + m - 8 * j := by omega
    simp [BitVec.getLsbD_of_ge b _ habove, h.ne']

/-- Bit m of byte k is bit 8k+m of the packed id (20_memory.md R43): of the eight bytes put together, byte k alone has
bits there. -/
theorem getLsbD_packRom (rom : Rom) {k m : Nat} (hk : k < 8) (hm : m < 8) :
    (packRom rom).getLsbD (8 * k + m) = rom[k].getLsbD m := by
  have hbyte (b : Byte) (j : Nat) := getLsbD_byte_shiftLeft b j hk hm
  have h0 : (rom[0].setWidth 64).getLsbD (8 * k + m) = (decide (k = 0) && rom[0].getLsbD m) := by
    simpa using hbyte rom[0] 0
  simp only [packRom, BitVec.getLsbD_or]
  rw [h0, hbyte rom[1] 1, hbyte rom[2] 2, hbyte rom[3] 3, hbyte rom[4] 4, hbyte rom[5] 5, hbyte rom[6] 6,
    hbyte rom[7] 7]
  interval_cases k <;> simp

/-- Byte k of the packed id is ROM[k] (20_memory.md R43). -/
theorem extractLsb'_packRom (rom : Rom) {k : Nat} (hk : k < 8) : (packRom rom).extractLsb' (8 * k) 8 = rom[k] := by
  apply BitVec.eq_of_getLsbD_eq
  intro m hm
  simp [hm, getLsbD_packRom rom hk hm]

/-- Byte k of the unpacked id is bits 8k+7:8k (20_memory.md R43, 30_encoding.md R62). -/
theorem getElem_unpackRom (x : BitVec 64) {k : Nat} (hk : k < 8) : (unpackRom x)[k] = x.extractLsb' (8 * k) 8 := by
  interval_cases k <;> rfl

/-- Unpacking undoes packing, byte by byte. -/
theorem unpackRom_packRom (rom : Rom) : unpackRom (packRom rom) = rom := by
  ext k hk : 1
  rw [getElem_unpackRom _ hk, extractLsb'_packRom _ hk]

/-- Packing undoes unpacking, bit by bit. -/
theorem packRom_unpackRom (x : BitVec 64) : packRom (unpackRom x) = x := by
  apply BitVec.eq_of_getLsbD_eq
  intro i hi
  have hk : i / 8 < 8 := by omega
  have hm : i % 8 < 8 := by omega
  calc (packRom (unpackRom x)).getLsbD i
      = (packRom (unpackRom x)).getLsbD (8 * (i / 8) + i % 8) := by rw [Nat.div_add_mod]
    _ = (x.extractLsb' (8 * (i / 8)) 8).getLsbD (i % 8) := by
        rw [getLsbD_packRom _ hk hm, getElem_unpackRom _ hk]
    _ = x.getLsbD i := by simp [hm, Nat.div_add_mod]

/-- Bit position p is bit p-1 of the packed id (20_memory.md R43). -/
theorem getLsbD_packRom_position (rom : Rom) {p : Nat} (hp : 1 ≤ p ∧ p ≤ 64) :
    (packRom rom).getLsbD (p - 1) = romBit rom p := by
  have hk : (p - 1) / 8 < 8 := by omega
  have hm : (p - 1) % 8 < 8 := by omega
  rw [romBit_of_range rom hk, ← getLsbD_packRom rom hk hm, Nat.div_add_mod]

/-! ### The counters from one position to the next -/

/-- BYTE is an index of ROM at a bit position (10_state.md R19). -/
theorem PassRegs.positioned.byte_lt {p : PassRegs} (h : p.positioned) : p.byte.toNat < 8 := by
  obtain ⟨k, -, -, hbyte, -⟩ := h
  exact hbyte

/-- Between two positions of a byte MASK goes one place left and BYTE stays (20_memory.md R42). -/
theorem PassRegs.counters_of_advance_ne {p q : PassRegs} {table : CrcTable} {rom : Rom}
    (hq : p.advance table rom = some q) (hm : p.mask ≠ 0x80#8) : q.mask = p.mask <<< 1 ∧ q.byte = p.byte := by
  cases hq.symm.trans (PassRegs.advance_of_ne hm)
  exact ⟨rfl, rfl⟩

/-- After bit 7 the next byte begins with MASK = 0x01 (20_memory.md R42). -/
theorem PassRegs.counters_of_advance_eq {p q : PassRegs} {table : CrcTable} {rom : Rom}
    (hq : p.advance table rom = some q) (hb : p.byte.toNat < 8) (hm : p.mask = 0x80#8) :
    q.mask = 0x01#8 ∧ q.byte.toNat = p.byte.toNat + 1 := by
  cases hq.symm.trans (PassRegs.advance_of_eq hm hb)
  have hsum : p.byte.toNat + (1#4).toNat < 2 ^ 4 := by
    change p.byte.toNat + 1 < 16
    omega
  exact ⟨rfl, BitVec.toNat_add_of_lt hsum⟩

end Sys2Proof.Machine
end

section
/-! SUPPORT. Nothing writes the parameter CRC8_TABLE (20_memory.md R41, R52): each shared operation keeps it, said once,
and so does each meaning. -/

namespace Sys2Proof.Machine

/-- If `r` is a next state, it has the table of `s`. -/
def State.KeepsTable (s : State) (r : Result) : Prop := ∀ t, r = .next t → t.crc8Table = s.crc8Table

/-! ### Guards -/

theorem State.keepsTable_next {s t : State} (h : t.crc8Table = s.crc8Table) : s.KeepsTable (.next t) := by
  rintro _ ⟨⟩
  exact h

theorem State.keepsTable_fault (s : State) (e : Fault) : s.KeepsTable (.fault e) :=
  fun _ h => by cases h

theorem State.KeepsTable.guarded {s : State} {r : Result} (h : s.KeepsTable r) : s.KeepsTable (s.guarded r) :=
  fun t ht => h t (State.guarded_next ht).2

theorem State.KeepsTable.accept {s : State} {r : Result} (h : s.KeepsTable r) : s.KeepsTable (s.accept r) := by
  intro t ht
  obtain ⟨-, ⟨-, hr⟩ | ⟨-, rfl⟩⟩ := State.accept_next ht
  · exact h t hr
  · rfl

theorem State.KeepsTable.takeResponse {s : State} {r : Result} (h : s.KeepsTable r) (waits : List Fsm) :
    s.KeepsTable (s.takeResponse waits r) := by
  intro t ht
  obtain ⟨-, ⟨-, rfl⟩ | ⟨-, -, -, hr⟩⟩ := State.takeResponse_next ht
  · rfl
  · exact h t hr

/-! ### The search pass -/

@[simp] theorem State.fail_crc8Table (s : State) (l : Label) : (s.fail l).crc8Table = s.crc8Table := by
  simp [State.fail]

@[simp] theorem State.beginSearch_crc8Table (s : State) (m : Mode) : (s.beginSearch m).crc8Table = s.crc8Table := by
  rcases s.beginSearch_cases m with ⟨-, he⟩ | ⟨-, he⟩ <;> rw [he] <;> simp

@[simp] theorem State.onReset_crc8Table (s : State) (bit err : Bool) : (s.onReset bit err).crc8Table = s.crc8Table := by
  unfold State.onReset
  split_ifs <;> simp

@[simp] theorem State.onCommandByte_crc8Table (s : State) (err : Bool) :
    (s.onCommandByte err).crc8Table = s.crc8Table := by
  unfold State.onCommandByte
  split_ifs <;> simp

@[simp] theorem State.onIdBit_crc8Table (s : State) (bit err : Bool) : (s.onIdBit bit err).crc8Table = s.crc8Table := by
  unfold State.onIdBit
  split_ifs <;> simp

theorem State.writeDirection_keepsTable (s : State) (d : Bool) : s.KeepsTable (s.writeDirection d) := by
  unfold State.writeDirection
  split
  · exact s.keepsTable_fault _
  · exact State.keepsTable_next (by simp)

theorem State.onCmpBit_keepsTable (s : State) (bit err : Bool) : s.KeepsTable (s.onCmpBit bit err) := by
  simp only [State.onCmpBit]
  split_ifs
  · exact State.keepsTable_next (by simp)
  · exact State.keepsTable_next (by simp)
  · exact State.writeDirection_keepsTable _ _

theorem State.onDirection_keepsTable (s : State) (err : Bool) : s.KeepsTable (s.onDirection err) := by
  simp only [State.onDirection]
  split_ifs
  · exact State.keepsTable_next (by simp)
  · split
    · exact s.keepsTable_fault _
    · split_ifs <;> exact State.keepsTable_next (by simp)

/-! ### Instructions and edges -/

/-- No instruction writes the table: a command by what it answers, a request's response by the step of its wait state. -/
theorem exec_keepsTable (i : Instr) (s : State) : s.KeepsTable (exec i s) := by
  cases i with
  | first | next | verify => exact (State.keepsTable_next (by simp)).accept
  | targetSetup | familySkipSetup | crcStep => exact (State.keepsTable_next (by rfl)).accept
  | phyResetBus | phyWriteByte => exact (State.keepsTable_next (by simp)).takeResponse _
  | phyWriteBit => exact (s.onDirection_keepsTable _).takeResponse _
  | phyReadBit =>
    refine State.KeepsTable.takeResponse ?_ _
    split_ifs
    · exact State.keepsTable_next (by simp)
    · exact s.onCmpBit_keepsTable _ _

/-- No edge writes the table, whatever the ports offer. -/
theorem edge_keepsTable (s : State) : s.KeepsTable (edge s) := by
  unfold edge
  cases fetch s with
  | quiet => exact (State.keepsTable_next (by rfl)).guarded
  | illegal => exact (State.keepsTable_next (by rfl)).accept
  | run i => exact exec_keepsTable i s
  | stray => exact (s.keepsTable_fault _).guarded

end Sys2Proof.Machine
end

section
/-! SUPPORT. The two setup commands on SearchState (42_session.md R103, R104), and that the block is ready again after
each. -/

namespace Sys2Proof.Machine

/-- SearchState after TARGET_SETUP (42_session.md R103). -/
def SearchState.ofTarget (a : Byte) : SearchState :=
  { rom := targetRom a, ld := Config.verifyLd, lfd := 0, ldf := false }

/-- SearchState after FAMILY_SKIP_SETUP (42_session.md R104). -/
def SearchState.skipFamily (x : SearchState) : SearchState :=
  { x with ld := x.lfd, lfd := 0, ldf := ldfAfterSkip x.ldf x.lfd }

theorem SearchState.ofTarget_inRange (a : Byte) : (SearchState.ofTarget a).InRange :=
  ⟨(by decide : Config.verifyLd.toNat ≤ 64), Nat.zero_le 8⟩

theorem SearchState.skipFamily_inRange {x : SearchState} (h : x.lfd.toNat ≤ 8) : x.skipFamily.InRange :=
  ⟨h.trans (by decide), Nat.zero_le 8⟩

/-- After one skip LFD is 0, so a second ends the enumeration (20_memory.md R54, 42_session.md R104). -/
theorem SearchState.skipFamily_skipFamily (x : SearchState) :
    x.skipFamily.skipFamily = { x.skipFamily with ld := 0, lfd := 0, ldf := true } := rfl

/-- A setup command's answer: SearchState `x` and the response 0x0000 (42_session.md R103, R104). -/
def State.setUp (s : State) (x : SearchState) : State :=
  State.respond { s with search := x } (.ofFound false) .none

theorem exec_targetSetup {s : State} (h : s.Accepting) (a : Byte) :
    exec (.targetSetup a) s = .next (s.setUp (.ofTarget a)) :=
  State.accept_of_accepting h

theorem exec_familySkipSetup {s : State} (h : s.Accepting) :
    exec .familySkipSetup s = .next (s.setUp s.search.skipFamily) :=
  State.accept_of_accepting h

/-- A setup command leaves the block ready for the next (10_state.md R32). -/
theorem State.Accepting.setUp {s : State} (h : s.Accepting) {x : SearchState} (hx : x.InRange) :
    (s.setUp x).Accepting := by
  obtain ⟨hrange, hidle, hrst⟩ := h
  obtain ⟨-, -, hpass⟩ := s.inRange_iff.mp hrange
  exact ⟨(State.inRange_iff _).mpr ⟨hx.ld, hx.lfd, hpass⟩, hidle, hrst⟩

/-- Setting up the same SearchState again adds the response to the trace alone. -/
theorem State.setUp_setUp (s : State) (x : SearchState) :
    (s.setUp x).setUp x = { s.setUp x with trace := .response 0x0000 .none :: (s.setUp x).trace } := rfl

end Sys2Proof.Machine
end

section
/-! The obligations on memory: the ROM id and its bits, its packing, the setup commands repeated, and the read-only table. -/

namespace Sys2Proof.Machine

/-- Settles O12: reading and writing a position by its byte and bit, the start values, and the two kinds of advance. -/
theorem romBitPositions : Obligations.RomBitPositions := by
  refine ⟨fun rom p hlow hhigh => ?_, fun s => ⟨PassRegs.positioned_of_start ⟨rfl, rfl, rfl⟩, rfl, rfl⟩,
    fun p table rom h => ?_⟩
  · exact ⟨romBit_of_range rom (by omega), fun b q hq hq' => romBit_setRomBit rom b ⟨hlow, hhigh⟩ ⟨hq, hq'⟩⟩
  · obtain ⟨q, hq, -, hp, -, -, hpos⟩ := h.advance table rom
    exact ⟨q, hq, hp, PassRegs.counters_of_advance_ne hq, PassRegs.counters_of_advance_eq hq h.byte_lt,
      fun hlt => hpos fun h8 => by simp [h8] at hlt⟩

/-- Settles O13: ROM_OUT is the packed ROM, so each part is one of the lemmas on packing and unpacking. -/
theorem romPacking : Obligations.RomPacking :=
  ⟨fun s _ hk => extractLsb'_packRom s.search.rom hk, fun x _ hk => getElem_unpackRom x hk,
    fun s _ hlow hhigh => getLsbD_packRom_position s.search.rom ⟨hlow, hhigh⟩, unpackRom_packRom, packRom_unpackRom,
    by decide⟩

/-- Settles O14: at a bit position BYTE and MASK are the byte and the bit of P. -/
theorem maskedWriteIsBitWrite : Obligations.MaskedWriteIsBitWrite := fun _ rom d h => h.storeBit_eq rom d

/-- Settles O26: the block is ready again after the first command, and the second acts on the SearchState it left. -/
theorem setupCommandsTwice : Obligations.SetupCommandsTwice := by
  refine ⟨fun s t h ht => ?_, fun s t a h ht => ?_⟩
  · obtain ⟨-, hlfd, -⟩ := s.inRange_iff.mp h.1
    cases (exec_familySkipSetup h).symm.trans ht
    exact ⟨_, exec_familySkipSetup (h.setUp (SearchState.skipFamily_inRange hlfd)), s.search.skipFamily_skipFamily⟩
  · cases (exec_targetSetup h a).symm.trans ht
    exact ⟨_, exec_targetSetup (h.setUp (SearchState.ofTarget_inRange a)) a, s.setUp_setUp _⟩

/-- Settles O60: an edge keeps the table by its branch, and so do reset and the move of the inputs. -/
theorem tableIsReadOnly : Obligations.TableIsReadOnly := by
  refine ⟨fun s t i => exec_keepsTable i s t, fun s t hstep => ?_⟩
  cases hr : s.inputs.rst
  · obtain ⟨u, hu, rfl⟩ := step_next hr hstep
    rw [State.nextInputs_crc8Table, edge_keepsTable _ u hu, State.beginEdge_crc8Table]
  · cases (step_of_rst hr).symm.trans hstep
    simp

end Sys2Proof.Machine
end

section
/-! SUPPORT. The fields of a command word and of a request word as parts put side by side (30_encoding.md R60, R67), and
what the decoder reads from a word and from its fields (30_encoding.md R63, R64). -/

namespace Sys2Proof

/-! ### The fields of a command word -/

/-- The encoder's command word, most significant field first, both reserved fields 0 (30_encoding.md R60). -/
theorem commandWord_eq_append (op : BitVec 3) (a b : Byte) : commandWord op a b = 0#8 ++ b ++ a ++ 0#5 ++ op := by
  apply BitVec.eq_of_getLsbD_eq
  intro i hi
  simp only [commandWord, BitVec.getLsbD_or, BitVec.getLsbD_shiftLeft, BitVec.getLsbD_setWidth]
  grind

/-- A command word is its five fields side by side (30_encoding.md R60). -/
theorem append_commandFields (cmd : BitVec 32) :
    rsv1Field cmd ++ bField cmd ++ aField cmd ++ rsv0Field cmd ++ opField cmd = cmd := by
  unfold rsv1Field bField aField rsv0Field opField
  rw [BitVec.extractLsb'_append_extractLsb'_eq_extractLsb' (show 24 = 16 + 8 from rfl),
    BitVec.extractLsb'_append_extractLsb'_eq_extractLsb' (show 16 = 8 + 8 from rfl),
    BitVec.extractLsb'_append_extractLsb'_eq_extractLsb' (show 8 = 3 + 5 from rfl),
    BitVec.extractLsb'_append_extractLsb'_eq_extractLsb' (show 3 = 0 + 3 from rfl)]
  exact BitVec.extractLsb'_eq_self

@[simp] theorem opField_commandWord (op : BitVec 3) (a b : Byte) : opField (commandWord op a b) = op := by
  rw [commandWord_eq_append]
  exact BitVec.extractLsb'_append_eq_right

@[simp] theorem rsv0Field_commandWord (op : BitVec 3) (a b : Byte) : rsv0Field (commandWord op a b) = 0 := by
  rw [commandWord_eq_append]
  exact (BitVec.extractLsb'_append_eq_of_le (by decide)).trans BitVec.extractLsb'_append_eq_right

@[simp] theorem aField_commandWord (op : BitVec 3) (a b : Byte) : aField (commandWord op a b) = a := by
  rw [commandWord_eq_append]
  iterate 2 refine (BitVec.extractLsb'_append_eq_of_le (by decide)).trans ?_
  exact BitVec.extractLsb'_append_eq_right

@[simp] theorem bField_commandWord (op : BitVec 3) (a b : Byte) : bField (commandWord op a b) = b := by
  rw [commandWord_eq_append]
  iterate 3 refine (BitVec.extractLsb'_append_eq_of_le (by decide)).trans ?_
  exact BitVec.extractLsb'_append_eq_right

@[simp] theorem rsv1Field_commandWord (op : BitVec 3) (a b : Byte) : rsv1Field (commandWord op a b) = 0 := by
  rw [commandWord_eq_append]
  iterate 4 refine (BitVec.extractLsb'_append_eq_of_le (by decide)).trans ?_
  exact BitVec.extractLsb'_eq_self

/-- A word with both reserved fields 0 is the command word of its other fields (30_encoding.md R60). -/
theorem commandWord_fields {cmd : BitVec 32} (h0 : rsv0Field cmd = 0) (h1 : rsv1Field cmd = 0) :
    commandWord (opField cmd) (aField cmd) (bField cmd) = cmd := by
  have h := append_commandFields cmd
  rw [h0, h1] at h
  rw [commandWord_eq_append]
  exact h

/-! ### The legal words, and the row each decodes to -/

/-- The conditions of 30_encoding.md R63 on OP, A and B, denied: OP names a command, and an operand it does not take
is 0. -/
structure LegalFields (op : BitVec 3) (a b : Byte) : Prop where
  command : op ≠ 0b000 ∧ op ≠ 0b111
  operandB : b = 0 ∨ op = 0b110
  operandA : a = 0 ∨ op = 0b100 ∨ op = 0b110

/-- The row of 30_encoding.md R61 that a legal word's OP names, with its operands. -/
def Instr.ofFields (op : BitVec 3) (a b : Byte) (romIn : BitVec 64) : Instr :=
  if op = 0b001 then .first
  else if op = 0b010 then .next
  else if op = 0b011 then .verify romIn
  else if op = 0b100 then .targetSetup a
  else if op = 0b101 then .familySkipSetup
  else .crcStep b a

/-- The words that are not legal, by their fields: the five conditions of 30_encoding.md R63 in its order. -/
theorem legalCommand_eq_false_iff (cmd : BitVec 32) :
    legalCommand cmd = false ↔
      (opField cmd = 0b000 ∨ opField cmd = 0b111) ∨ rsv0Field cmd ≠ 0 ∨ rsv1Field cmd ≠ 0 ∨
        (bField cmd ≠ 0 ∧ opField cmd ≠ 0b110) ∨
          (aField cmd ≠ 0 ∧ opField cmd ≠ 0b100 ∧ opField cmd ≠ 0b110) := by
  simp only [legalCommand, opReserved, strayB, strayA, Bool.not_eq_false', Bool.or_eq_true, Bool.and_eq_true,
    beq_iff_eq, bne_iff_ne, or_assoc]

theorem opReserved_eq_false_iff (cmd : BitVec 32) :
    opReserved cmd = false ↔ opField cmd ≠ 0b000 ∧ opField cmd ≠ 0b111 := by
  simp [opReserved]

theorem strayB_eq_false_iff (cmd : BitVec 32) : strayB cmd = false ↔ bField cmd = 0 ∨ opField cmd = 0b110 := by
  simp [strayB, or_iff_not_imp_left]

theorem strayA_eq_false_iff (cmd : BitVec 32) :
    strayA cmd = false ↔ aField cmd = 0 ∨ opField cmd = 0b100 ∨ opField cmd = 0b110 := by
  simp [strayA, or_iff_not_imp_left]

/-- A word is legal when both reserved fields are 0 and OP, A and B meet the other conditions (30_encoding.md R63). -/
theorem legalCommand_iff (cmd : BitVec 32) :
    legalCommand cmd = true ↔
      rsv0Field cmd = 0 ∧ rsv1Field cmd = 0 ∧ LegalFields (opField cmd) (aField cmd) (bField cmd) := by
  have hlegal : legalCommand cmd = true ↔ opReserved cmd = false ∧ rsv0Field cmd = 0 ∧ rsv1Field cmd = 0 ∧
      strayB cmd = false ∧ strayA cmd = false := by
    simp [legalCommand, and_assoc]
  rw [hlegal, opReserved_eq_false_iff, strayB_eq_false_iff, strayA_eq_false_iff]
  exact ⟨fun ⟨hop, h0, h1, hb, ha⟩ => ⟨h0, h1, hop, hb, ha⟩, fun ⟨h0, h1, hop, hb, ha⟩ => ⟨hop, h0, h1, hb, ha⟩⟩

/-- A legal word decodes to the row of its OP (30_encoding.md R64): none of the five rejections is taken. -/
theorem decodeCommand_of_legal {cmd : BitVec 32} (h : legalCommand cmd = true) (romIn : BitVec 64) :
    decodeCommand cmd romIn = .ok (.ofFields (opField cmd) (aField cmd) (bField cmd) romIn) := by
  obtain ⟨h0, h1, hop, hb, ha⟩ := (legalCommand_iff cmd).mp h
  rw [← opReserved_eq_false_iff] at hop
  rw [← strayB_eq_false_iff] at hb
  rw [← strayA_eq_false_iff] at ha
  unfold decodeCommand
  rw [if_neg (not_not.mpr h1), if_neg (not_not.mpr h0), if_neg (Bool.eq_false_iff.mp hop),
    if_neg (Bool.eq_false_iff.mp hb), if_neg (Bool.eq_false_iff.mp ha)]
  simp only [Instr.ofFields, apply_ite Except.ok]

/-- A word that is not legal is rejected (30_encoding.md R63, R64): where none of the five rejections is taken, the word
is legal. -/
theorem decodeCommand_of_not_legal {cmd : BitVec 32} (h : legalCommand cmd = false) (romIn : BitVec 64) :
    ∃ e, decodeCommand cmd romIn = .error e := by
  unfold decodeCommand
  split_ifs with h1 h0 hop hb ha
  iterate 5 exact ⟨_, rfl⟩
  all_goals simp_all [legalCommand]

/-- The decoder reads an instruction from the legal words alone (30_encoding.md R63, R64). -/
theorem decodeCommand_eq_ok_iff {cmd : BitVec 32} {romIn : BitVec 64} {i : Instr} :
    decodeCommand cmd romIn = .ok i ↔
      legalCommand cmd = true ∧ Instr.ofFields (opField cmd) (aField cmd) (bField cmd) romIn = i := by
  cases h : legalCommand cmd
  · obtain ⟨e, he⟩ := decodeCommand_of_not_legal h romIn
    simp [he]
  · simp [decodeCommand_of_legal h]

/-! ### The encoder on the rows -/

/-- The encoder's word of legal fields is legal. -/
theorem LegalFields.legalCommand {op : BitVec 3} {a b : Byte} (h : LegalFields op a b) :
    legalCommand (commandWord op a b) = true :=
  (legalCommand_iff _).mpr ⟨rsv0Field_commandWord .., rsv1Field_commandWord .., by simpa using h⟩

/-- The encoder's word of legal fields decodes to the row of its OP (30_encoding.md R64). -/
theorem LegalFields.decode_commandWord {op : BitVec 3} {a b : Byte} (h : LegalFields op a b) (romIn : BitVec 64) :
    decode (.command (commandWord op a b) romIn) = .ok (.ofFields op a b romIn) :=
  decodeCommand_eq_ok_iff.mpr ⟨h.legalCommand, by simp⟩

/-- The six rows of 30_encoding.md R61: OP, and 0 for an operand that the command does not take. -/
theorem LegalFields.rows {op : BitVec 3} {a b : Byte} (h : LegalFields op a b) :
    op = 0b001 ∧ a = 0 ∧ b = 0 ∨ op = 0b010 ∧ a = 0 ∧ b = 0 ∨ op = 0b011 ∧ a = 0 ∧ b = 0 ∨ op = 0b100 ∧ b = 0 ∨
      op = 0b101 ∧ a = 0 ∧ b = 0 ∨ op = 0b110 := by
  obtain ⟨hop, hb, ha⟩ := h
  have hrow : ∀ o : BitVec 3, o ≠ 0b000 ∧ o ≠ 0b111 →
      o = 0b001 ∨ o = 0b010 ∨ o = 0b011 ∨ o = 0b100 ∨ o = 0b101 ∨ o = 0b110 := by decide
  rcases hrow op hop with rfl | rfl | rfl | rfl | rfl | rfl <;> simp_all

/-- The row of legal fields encodes to the word of those fields; ROM_IN goes with VERIFY alone (30_encoding.md R62). -/
theorem LegalFields.encode_ofFields {op : BitVec 3} {a b : Byte} (h : LegalFields op a b) (romIn : BitVec 64) :
    encode (.ofFields op a b romIn) =
      .command (commandWord op a b) (if Instr.ofFields op a b romIn = .verify romIn then romIn else 0) := by
  rcases h.rows with ⟨rfl, rfl, rfl⟩ | ⟨rfl, rfl, rfl⟩ | ⟨rfl, rfl, rfl⟩ | ⟨rfl, rfl⟩ | ⟨rfl, rfl, rfl⟩ | rfl
  case inr.inr.inl => simp [Instr.ofFields, encode]
  all_goals rfl

/-! ### The fields of a request word -/

/-- A request word is ROP and DATA side by side (30_encoding.md R67). -/
theorem requestWord_eq_append (rop : BitVec 2) (data : Byte) : requestWord rop data = rop ++ data := by
  apply BitVec.eq_of_getLsbD_eq
  intro i hi
  simp only [requestWord, BitVec.getLsbD_or, BitVec.getLsbD_shiftLeft, BitVec.getLsbD_setWidth]
  grind

@[simp] theorem ropField_requestWord (rop : BitVec 2) (data : Byte) : ropField (requestWord rop data) = rop := by
  rw [requestWord_eq_append]
  exact BitVec.extractLsb'_append_eq_left

@[simp] theorem dataField_requestWord (rop : BitVec 2) (data : Byte) : dataField (requestWord rop data) = data := by
  rw [requestWord_eq_append]
  exact BitVec.extractLsb'_append_eq_right

/-- A request word is the word of its two fields (30_encoding.md R67). -/
theorem requestWord_fields (w : BitVec 10) : requestWord (ropField w) (dataField w) = w := by
  rw [requestWord_eq_append]
  unfold ropField dataField
  rw [BitVec.extractLsb'_append_extractLsb'_eq_extractLsb' (show 8 = 0 + 8 from rfl)]
  exact BitVec.extractLsb'_eq_self

/-- A request word that decodes is the word of the primitive it names (30_encoding.md R67): one case for each row of the
table, by ROP and DATA. -/
theorem encode_of_decodeRequest {w : BitVec 10} {i : Instr} (h : decodeRequest w = .ok i) : encode i = .request w := by
  unfold decodeRequest at h
  rw [← requestWord_fields w]
  split_ifs at h with h0 hd h1 hd hd h2 hd <;> cases h
  · rw [h0, hd]; rfl
  · rw [h1, hd]; rfl
  · rw [h1, hd]; rfl
  · rw [h2, hd]; rfl
  · have hlast : ∀ rop : BitVec 2, rop ≠ 0b00 → rop ≠ 0b01 → rop ≠ 0b10 → rop = 0b11 := by decide
    rw [hlast _ h0 h1 h2]; rfl

end Sys2Proof
end

section
/-! SUPPORT. The assembler's lines with operands (30_encoding.md R69), and the fields of the two response words
(30_encoding.md R66, R68). -/

namespace Sys2Proof.Machine

/-! ### Operands in their fields -/

theorem fitOperand_of_lt {width n : Nat} (h : n < 2 ^ width) : fitOperand width n = some (BitVec.ofNat width n) :=
  if_pos h

theorem fitOperand_of_not_lt {width n : Nat} (h : ¬ n < 2 ^ width) : fitOperand width n = none := if_neg h

/-- The command word of operands that fit has their numbers in its fields, not truncated (30_encoding.md R60, R69). -/
theorem commandWord_ofNat (op : BitVec 3) {m n : Nat} (hm : m < 256) (hn : n < 256) :
    commandWord op (BitVec.ofNat 8 m) (BitVec.ofNat 8 n) =
      op.setWidth 32 ||| BitVec.ofNat 32 m <<< 8 ||| BitVec.ofNat 32 n <<< 16 := by
  unfold commandWord
  rw [BitVec.setWidth_ofNat_of_le_of_lt (by decide) hm, BitVec.setWidth_ofNat_of_le_of_lt (by decide) hn]

/-! ### The lines with operands -/

theorem assembleLine_verify (table : CrcTable) (rom : Nat) :
    (assembleLine table (.verify rom)).map (List.map encode) =
      if rom < 2 ^ 64 then some [.command 0x00000003 (BitVec.ofNat 64 rom)] else none := by
  by_cases h : rom < 2 ^ 64
  · rw [if_pos h, assembleLine, fitOperand_of_lt h]
    rfl
  · rw [if_neg h, assembleLine, fitOperand_of_not_lt h]
    rfl

theorem assembleLine_targetSetup (table : CrcTable) (fam : Nat) :
    (assembleLine table (.targetSetup fam)).map (List.map encode) =
      if fam < 256 then some [.command (0x00000004 ||| BitVec.ofNat 32 fam <<< 8) 0] else none := by
  by_cases h : fam < 256
  · have hword : commandWord 0b100 (BitVec.ofNat 8 fam) 0 = 0x00000004#32 ||| BitVec.ofNat 32 fam <<< 8 := by
      simpa using commandWord_ofNat 0b100 h (n := 0) (by decide)
    rw [if_pos h, assembleLine, fitOperand_of_lt (width := 8) h]
    exact congrArg (fun w => some [Encoded.command w 0]) hword
  · rw [if_neg h, assembleLine, fitOperand_of_not_lt (width := 8) h]
    rfl

theorem assembleLine_crcStep (table : CrcTable) (acc byte : Nat) :
    (assembleLine table (.crcStep acc byte)).map (List.map encode) =
      if acc < 256 ∧ byte < 256 then
        some [.command (0x00000006 ||| BitVec.ofNat 32 byte <<< 8 ||| BitVec.ofNat 32 acc <<< 16) 0]
      else none := by
  by_cases ha : acc < 256
  · by_cases hb : byte < 256
    · rw [if_pos ⟨ha, hb⟩, assembleLine, fitOperand_of_lt (width := 8) ha, fitOperand_of_lt (width := 8) hb]
      exact congrArg (fun w => some [Encoded.command w 0]) (commandWord_ofNat 0b110 hb ha)
    · simp [assembleLine, fitOperand_of_not_lt (width := 8) hb, hb]
  · simp [assembleLine, fitOperand_of_not_lt (width := 8) ha, ha]

/-! ### RSP and PHY_RSP -/

theorem Response.word_found (r : Response) : r.word.getLsbD 0 = r.found := by
  rw [Response.word, BitVec.getLsbD_append]
  simp

theorem Response.word_illegal (r : Response) : r.word.getLsbD 1 = r.illegal := by
  rw [Response.word, BitVec.getLsbD_append, BitVec.getLsbD_append]
  simp

theorem Response.word_zero (r : Response) : r.word.extractLsb' 2 6 = 0 := by
  unfold Response.word
  iterate 2 refine (BitVec.extractLsb'_append_eq_of_le (by decide)).trans ?_
  exact BitVec.extractLsb'_append_eq_right

theorem Response.word_crc (r : Response) : r.word.extractLsb' 8 8 = r.crc := by
  unfold Response.word
  iterate 3 refine (BitVec.extractLsb'_append_eq_of_le (by decide)).trans ?_
  exact BitVec.extractLsb'_eq_self

theorem phyRspWord_bit (i : Inputs) : (phyRspWord i).getLsbD 0 = i.phyBit := by
  rw [phyRspWord, BitVec.getLsbD_append]
  simp

theorem phyRspWord_err (i : Inputs) : (phyRspWord i).getLsbD 1 = i.phyErr := by
  rw [phyRspWord, BitVec.getLsbD_append]
  simp

/-- A packed response presented packs back to the same word (30_encoding.md R68). -/
theorem phyRspWord_withPhyRsp (i : Inputs) (w : BitVec 2) : phyRspWord (withPhyRsp i w) = w := by
  apply BitVec.eq_of_getLsbD_eq
  intro k hk
  interval_cases k
  · exact phyRspWord_bit _
  · exact phyRspWord_err _

end Sys2Proof.Machine
end

section
/-! SUPPORT. CRC_CHECK's commands run one after another (30_encoding.md R70, 40_crc8.md R74). -/

namespace Sys2Proof.Machine

theorem exec_crcStep {s : State} (h : s.Accepting) (acc byte : Byte) :
    exec (.crcStep acc byte) s = .next (s.respond (.ofCrc (crc8Step s.crc8Table acc byte)) .none) :=
  State.accept_of_accepting h

/-- A response leaves the block ready for the next command (10_state.md R32). -/
theorem State.Accepting.respond {s : State} (h : s.Accepting) (r : Response) (l : Label) :
    (s.respond r l).Accepting := h

/-- CRC_CHECK's first command hands its answer to the others (30_encoding.md R70). -/
theorem execAll_crcCheckCommands_cons {s : State} (h : s.Accepting) (acc b : Byte) (bs : List Byte) :
    execAll (crcCheckCommands s.crc8Table acc (b :: bs)) s =
      execAll (crcCheckCommands s.crc8Table (crc8Step s.crc8Table acc b) bs)
        (s.respond (.ofCrc (crc8Step s.crc8Table acc b)) .none) := by
  simp only [crcCheckCommands, execAll, exec_crcStep h]

/-- CRC_CHECK over at least one byte writes the response registers and the trace alone, and the last RSP_CRC is the
accumulator over all the bytes (30_encoding.md R70). -/
theorem execAll_crcCheckCommands {s : State} (h : s.Accepting) (acc b : Byte) (bs : List Byte) :
    ∃ tr, execAll (crcCheckCommands s.crc8Table acc (b :: bs)) s =
      .next { s with rsp := .ofCrc (crc8Run s.crc8Table acc (b :: bs)), rspValid := true, trace := tr } := by
  induction bs generalizing s acc b with
  | nil => exact ⟨_, execAll_crcCheckCommands_cons h acc b []⟩
  | cons c cs ih =>
    obtain ⟨tr, htr⟩ := ih (h.respond (.ofCrc (crc8Step s.crc8Table acc b)) .none) (crc8Step s.crc8Table acc b) c
    exact ⟨tr, (execAll_crcCheckCommands_cons h acc b (c :: cs)).trans htr⟩

end Sys2Proof.Machine
end

section
/-! SUPPORT. What a step does to PHY_REQ (10_state.md R34), and what it runs from the ports (30_encoding.md R64,
70_reset_and_hazards.md R153). -/

namespace Sys2Proof.Machine

/-! ### PHY_REQ -/

/-- `t` has issued no request after `s`: PHY_REQ_VALID and PHY_REQ are as they were (10_state.md R34). -/
def State.KeepsRequest (s t : State) : Prop := t.phyReqValid = s.phyReqValid ∧ t.phyReq = s.phyReq

/-- `t` has just issued a request and waits for it (10_state.md R26, R34). -/
def State.IssuesRequest (t : State) : Prop := t.phyReqValid = true ∧ t.fsm.waiting = true

theorem State.finish_keepsRequest (s : State) (found : Bool) (l : Label) : s.KeepsRequest (s.finish found l) :=
  ⟨State.finish_phyReqValid .., State.finish_phyReq ..⟩

theorem State.fail_keepsRequest (s : State) (l : Label) : s.KeepsRequest (s.fail l) :=
  s.resetToInitial.finish_keepsRequest false l

theorem State.evaluate_keepsRequest (s : State) : s.KeepsRequest s.evaluate := by
  rcases s.evaluate_cases with ⟨-, he⟩ | ⟨-, -, he⟩ | ⟨-, -, he⟩ <;> rw [he]
  · exact s.fail_keepsRequest _
  · exact s.fail_keepsRequest _
  · exact State.finish_keepsRequest _ _ _

/-- `begin_search` answers at once, or issues RESET_BUS (41_search.md R80, R81). -/
theorem State.beginSearch_request (s : State) (m : Mode) :
    s.KeepsRequest (s.beginSearch m) ∨ (s.beginSearch m).IssuesRequest := by
  rcases s.beginSearch_cases m with ⟨-, he⟩ | ⟨-, he⟩ <;> rw [he]
  · exact .inl (State.finish_keepsRequest { s with mode := m } _ _)
  · exact .inr ⟨rfl, rfl⟩

/-- Each branch of an edge leaves PHY_REQ alone or issues a request and waits for it. -/
theorem EdgeTo.request_cases {s t : State} (h : EdgeTo s t) : s.KeepsRequest t ∨ t.IssuesRequest := by
  cases h with
  | quiet | illegal | targetSetup | familySkipSetup | crcStep => exact .inl ⟨rfl, rfl⟩
  | first => exact s.resetToInitial.beginSearch_request .search
  | next => exact s.beginSearch_request .search
  | verify => exact (s.verifySetup _).beginSearch_request .verify
  | phyError | noPresence => exact .inl (s.fail_keepsRequest _)
  | violation => exact .inl ((s.withCmpb s.inputs.phyBit).fail_keepsRequest _)
  | presence | commandByte | idBit | direction | nextPosition => exact .inr ⟨rfl, rfl⟩
  | @lastPosition q => exact .inl (State.evaluate_keepsRequest { s with pass := q })

/-- FSM waits only for the request on PHY_REQ, one of the five words (30_encoding.md R67, 10_state.md R26). -/
theorem State.Inv.awaited_of_waiting {s : State} (h : s.Inv) (hw : s.fsm.waiting = true) :
    s.awaited = some s.phyReq ∧ s.phyReq ∈ [0x000#10, 0x100#10, 0x101#10, 0x200#10, 0x3F0#10] := by
  have hfive : ∃ w, s.awaited = some w ∧ w ∈ [0x000#10, 0x100#10, 0x101#10, 0x200#10, 0x3F0#10] := by
    unfold State.awaited
    cases hf : s.fsm with
    | idle | bad6 | bad7 => rw [hf] at hw; cases hw
    | rstWait | cmdWait | idWait | cmpWait => exact ⟨_, rfl, by decide⟩
    | dirWait => cases s.pass.dir <;> exact ⟨_, rfl, by decide⟩
  obtain ⟨w, hw, hmem⟩ := hfive
  rw [h.request w hw]
  exact ⟨hw, hmem⟩

/-- A step under the invariant leaves PHY_REQ alone, or issues a request and waits for it. -/
theorem step_request_cases {s t : State} (h : s.Inv) (hstep : step s = .next t) :
    t.phyReqValid = false ∧ t.phyReq = s.phyReq ∨ t.IssuesRequest := by
  rcases h.step_cases with ⟨-, hs⟩ | ⟨-, u, hs, he⟩ <;> cases hs.symm.trans hstep
  · exact .inl ⟨State.nextInputs_phyReqValid _, State.nextInputs_phyReq _⟩
  · rcases he.request_cases with ⟨hv, hq⟩ | ⟨hv, hw⟩
    · exact .inl ⟨(State.nextInputs_phyReqValid u).trans hv, (State.nextInputs_phyReq u).trans hq⟩
    · exact .inr ⟨(State.nextInputs_phyReqValid u).trans hv, by rwa [State.nextInputs_fsm]⟩

/-! ### What the ports offer -/

/-- A command presented in IDLE runs (30_encoding.md R64). -/
theorem edge_of_command {s : State} {i : Instr} (hf : s.fsm = .idle) (hv : s.inputs.cmdValid = true)
    (hd : decode (.command s.inputs.cmd s.inputs.romIn) = .ok i) : edge s = exec i s := by
  rw [edge_idle s hf, if_pos hv, hd]

/-- Outside IDLE the request on PHY_REQ runs once its response has arrived (70_reset_and_hazards.md R153). -/
theorem edge_of_request {s : State} {i : Instr} (hf : s.fsm ≠ .idle) (hv : s.inputs.phyRspValid = true)
    (hd : decode (.request s.phyReq) = .ok i) : edge s = exec i s := by
  have hfetch : fetch s = .run i := by
    unfold fetch fetchRequest
    rw [if_neg hf, if_pos hv, hd]
  rw [edge, hfetch]

/-- A step with RST = 0 is the edge with both pulses low, then the inputs move on. -/
theorem step_of_no_rst {s : State} (hr : s.inputs.rst = false) :
    step s = mapNext (edge s.beginEdge) State.nextInputs := by
  simp [step, hr]

end Sys2Proof.Machine
end

section
/-! The obligations on the encodings: decoder and encoder, the assembler, the response words, and the five requests. -/

namespace Sys2Proof.Machine

/-- Settles O7: a command's fields are legal, so its word decodes to the row of its OP; a request's word decodes by ROP
and DATA. -/
theorem decodeOfEncode : Obligations.DecodeOfEncode := by
  intro i
  cases i with
  | first | next | verify | familySkipSetup =>
    exact LegalFields.decode_commandWord ⟨by decide, .inl rfl, .inl rfl⟩ _
  | targetSetup a => exact LegalFields.decode_commandWord ⟨by decide, .inl rfl, .inr (.inl rfl)⟩ _
  | crcStep acc byte => exact LegalFields.decode_commandWord ⟨by decide, .inr rfl, .inr (.inr rfl)⟩ _
  | phyResetBus | phyReadBit => rfl
  | phyWriteBit d => cases d <;> rfl
  | phyWriteByte v => simp [encode, decode, decodeRequest, Request.writeByte]

/-- Settles O8: a command word that decodes is legal, hence the word of its OP, A and B, and the encoder gives that word
for its row; a request word is the word of ROP and DATA. -/
theorem encodeOfDecode : Obligations.EncodeOfDecode := by
  refine ⟨fun cmd romIn i h => ?_, fun w i h => encode_of_decodeRequest h⟩
  obtain ⟨hlegal, rfl⟩ := decodeCommand_eq_ok_iff.mp h
  obtain ⟨h0, h1, hfields⟩ := (legalCommand_iff cmd).mp hlegal
  rw [hfields.encode_ofFields romIn, commandWord_fields h0 h1]

/-- Settles O9: the decoder reads an instruction from the legal words alone, and those deny the five conditions. -/
theorem illegalWordsAreTheListed : Obligations.IllegalWordsAreTheListed := by
  refine fun cmd romIn => ⟨?_, ?_⟩
  · simp [decode, decodeCommand_eq_ok_iff]
  · exact legalCommand_eq_false_iff cmd

/-- Settles O11: three lines have no operand, and each of the others splits on whether its operands fit. -/
theorem assemblyTable : Obligations.AssemblyTable := fun table =>
  ⟨rfl, rfl, rfl, assembleLine_verify table, assembleLine_targetSetup table, assembleLine_crcStep table⟩

/-- Settles O18: at least one byte is checked, so the run is the one of `execAll_crcCheckCommands` from 0. -/
theorem crcCheckAnswersTheRun : Obligations.CrcCheckAnswersTheRun := by
  rintro s (_ | ⟨b, bs⟩) h hne
  · exact absurd rfl hne
  · obtain ⟨tr, htr⟩ := execAll_crcCheckCommands h 0 b bs
    exact ⟨_, htr, rfl, rfl, rfl, rfl, h.2.1⟩

/-- Settles O54: the step keeps PHY_REQ or issues a request, and the state it leaves meets the invariant. -/
theorem onlyFiveRequests : Obligations.OnlyFiveRequests := by
  intro s t h hstep
  have ht : t.Inv := invariantKept s t h hstep
  have hwaits : t.fsm.waiting = true ↔ t.fsm ≠ .idle := ⟨Fsm.ne_idle_of_waiting, ht.idle_or_waiting.resolve_left⟩
  rcases step_request_cases h hstep with ⟨hv, hq⟩ | ⟨hv, hw⟩
  · exact ⟨fun hc => by simp [hv] at hc, fun _ => hq, ht.awaited_of_waiting, hwaits⟩
  · exact ⟨fun _ => hw, fun hc => by simp [hv] at hc, ht.awaited_of_waiting, hwaits⟩

/-- Settles O3: with RST = 0 a step is the edge from both pulses low, which runs what the port of FSM offers. -/
theorem stepRunsDecodedInstruction : Obligations.StepRunsDecodedInstruction := by
  refine ⟨fun s i hr hf hv hd => ?_, fun s i hr hf hv hd => ?_⟩
  · rw [step_of_no_rst hr, edge_of_command (s := s.beginEdge) hf hv hd]
  · rw [step_of_no_rst hr, edge_of_request (s := s.beginEdge) hf hv hd]

/-- Settles O10: the legal words are the encoder's own, and the two others are rejected for the reason named. -/
theorem listedWordsDecode : Obligations.ListedWordsDecode :=
  ⟨decodeOfEncode .first, decodeOfEncode .next, decodeOfEncode (.verify _), decodeOfEncode (.targetSetup 0x28),
    decodeOfEncode .familySkipSetup, decodeOfEncode (.crcStep 0xBC 0x1C), by decide, by decide,
    decodeOfEncode .phyResetBus, decodeOfEncode (.phyWriteBit true), decodeOfEncode .phyReadBit,
    decodeOfEncode (.phyWriteByte 0xF0)⟩

/-- Settles O19: each field by its place in the packed word; the levels of a packed response are its definition. -/
theorem responseWordFields : Obligations.ResponseWordFields :=
  ⟨fun s => ⟨s.rsp.word_found, s.rsp.word_illegal, s.rsp.word_zero, s.rsp.word_crc⟩,
    fun i => ⟨phyRspWord_bit i, phyRspWord_err i⟩, fun i w => ⟨phyRspWord_withPhyRsp i w, rfl⟩⟩

end Sys2Proof.Machine
end

section
/-! SUPPORT. The CRC over the bytes of ROM completed in a pass: one byte more, and a write past them (40_crc8.md R71,
R75). -/

namespace Sys2Proof.Machine

/-! ### The accumulator over the first bytes of an id -/

/-- One byte more is one CRC step more (40_crc8.md R71). -/
theorem crc8Run_take_succ (table : CrcTable) (acc : Byte) (rom : Rom) {n : Nat} (hn : n < 8) :
    crc8Run table acc (rom.toList.take (n + 1)) = crc8Step table (crc8Run table acc (rom.toList.take n)) rom[n] := by
  have htake : rom.toList.take (n + 1) = rom.toList.take n ++ [rom[n]] := by
    rw [List.take_add_one]
    simp [hn]
  rw [htake, crc8Run, List.foldl_append]
  rfl

/-- A write at position `p` leaves the bytes before its own alone (20_memory.md R42). -/
theorem take_toList_setRomBit (rom : Rom) {p n : Nat} (b : Bool) (hn : n ≤ (p - 1) / 8) :
    (setRomBit rom p b).toList.take n = rom.toList.take n := by
  unfold setRomBit
  split
  · rw [Vector.toList_setIfInBounds, List.take_set_of_le hn]
  · rfl

/-- CRC has been fed the bytes of ROM before BYTE (40_crc8.md R75). -/
def PassRegs.Fed (p : PassRegs) (table : CrcTable) (rom : Rom) : Prop :=
  p.crc = crc8Run table 0 (rom.toList.take p.byte.toNat)

/-- The write of a direction is in the byte at BYTE, not yet fed (41_search.md R88). -/
theorem PassRegs.Fed.setRomBit {p : PassRegs} {table : CrcTable} {rom : Rom} (h : p.Fed table rom)
    (hp : p.positioned) (d : Bool) : p.Fed table (setRomBit rom p.p.toNat d) := by
  obtain ⟨k, hk, -, -, hpos⟩ := hp
  have hbyte : p.byte.toNat ≤ (p.p.toNat - 1) / 8 := by omega
  rw [PassRegs.Fed, take_toList_setRomBit rom d hbyte]
  exact h

/-- Going one position on feeds the byte exactly where BYTE moves past it (41_search.md R89, 40_crc8.md R75). -/
theorem PassRegs.Fed.advance {p q : PassRegs} {table : CrcTable} {rom : Rom} (h : p.Fed table rom)
    (hp : p.positioned) (hq : p.advance table rom = some q) : q.Fed table rom := by
  by_cases hm : p.mask = 0x80#8
  · obtain ⟨-, hbyte⟩ := PassRegs.counters_of_advance_eq hq hp.byte_lt hm
    have hcrc : q.crc = crc8Step table p.crc (rom[p.byte.toNat]'hp.byte_lt) := by
      cases hq.symm.trans (PassRegs.advance_of_eq hm hp.byte_lt)
      rfl
    rw [PassRegs.Fed, hcrc, hbyte, crc8Run_take_succ table 0 rom hp.byte_lt, h]
  · cases hq.symm.trans (PassRegs.advance_of_ne hm)
    exact h

/-! ### The branches of an edge -/

/-- Outside the wait states nothing is asked of CRC. -/
theorem State.crcInStep_of_idle {s : State} (hf : s.fsm = .idle) : s.CrcInStep :=
  fun hw => absurd hf (Fsm.ne_idle_of_waiting hw)

theorem State.EndsCommand.crcInStep {s t : State} (h : s.EndsCommand t) : t.CrcInStep :=
  State.crcInStep_of_idle h.1

/-- A pass begins with CRC = 0 and no byte completed (41_search.md R81). -/
theorem State.beginSearch_crcInStep (s : State) (m : Mode) : (s.beginSearch m).CrcInStep := by
  rcases s.beginSearch_cases m with ⟨-, he⟩ | ⟨-, he⟩ <;> rw [he]
  · exact State.crcInStep_of_idle (State.finish_fsm ..)
  · exact fun _ => rfl

/-- A response taken in a wait state finds the completed bytes fed. -/
theorem State.Responded.fed {s : State} {f : Fsm} {err : Bool} (hr : s.Responded f err) (h : s.CrcInStep)
    (hf : f.waiting = true) : s.pass.Fed s.crc8Table s.search.rom :=
  h (hr.waiting hf)

/-- Every branch of an edge keeps CRC in step: a command's end leaves the wait states, a pass begins with nothing fed,
CMP_WAIT writes the byte at BYTE alone, and DIR_WAIT feeds that byte as BYTE moves on. -/
theorem EdgeTo.crcInStep {s t : State} (h : s.Inv) (hcrc : s.CrcInStep) (he : EdgeTo s t) : t.CrcInStep := by
  cases he with
  | quiet => exact hcrc
  | illegal hc | targetSetup hc | familySkipSetup hc | crcStep hc => exact State.crcInStep_of_idle hc.idle
  | first | next | verify => exact State.beginSearch_crcInStep _ _
  | phyError | noPresence | violation => exact (State.fail_endsCommand _ _).crcInStep
  | lastPosition => exact (State.evaluate_endsCommand _).crcInStep
  | presence hp | commandByte hp | idBit hp => exact fun _ => hp.fed hcrc rfl
  | direction hp _ hc =>
    subst hc
    exact fun _ => (hp.fed hcrc rfl).setRomBit (hp.positioned h rfl) _
  | nextPosition hp hq => exact fun _ => (hp.fed hcrc rfl).advance (hp.positioned h rfl) hq

/-- The input levels are no part of the accumulator. -/
theorem State.CrcInStep.nextInputs {s : State} (h : s.CrcInStep) : s.nextInputs.CrcInStep := by
  simpa [State.CrcInStep] using h

end Sys2Proof.Machine
end

section
/-! SUPPORT. The words of CRC_STEP (30_encoding.md R61, R62) and its answer (40_crc8.md R74). -/

namespace Sys2Proof.Machine

/-- Where a mask is all ones, a masked word has its field's own value. -/
theorem extractLsb'_of_masked {x mask v : BitVec 32} {start len : Nat} (h : x &&& mask = v)
    (hm : mask.extractLsb' start len = BitVec.allOnes len) : x.extractLsb' start len = v.extractLsb' start len := by
  rw [← h, BitVec.extractLsb'_and, hm, BitVec.and_allOnes]

/-- The bits of CRC_STEP's row outside A and B fix OP and both reserved fields (30_encoding.md R61). -/
theorem fields_of_crcStep_row {cmd : BitVec 32} (h : cmd &&& 0xFF0000FF = 0x00000006) :
    opField cmd = 0b110 ∧ rsv0Field cmd = 0 ∧ rsv1Field cmd = 0 :=
  ⟨extractLsb'_of_masked h rfl, extractLsb'_of_masked h rfl, extractLsb'_of_masked h rfl⟩

/-- A word of CRC_STEP's row decodes to it, its operands in B and A (30_encoding.md R62, R64). -/
theorem decode_of_crcStep_row {cmd : BitVec 32} (h : cmd &&& 0xFF0000FF = 0x00000006) (romIn : BitVec 64) :
    decode (.command cmd romIn) = .ok (.crcStep (bField cmd) (aField cmd)) := by
  obtain ⟨hop, h0, h1⟩ := fields_of_crcStep_row h
  have hfields : LegalFields 0b110 (aField cmd) (bField cmd) := ⟨by decide, .inr rfl, .inr (.inr rfl)⟩
  rw [← commandWord_fields h0 h1, hop, hfields.decode_commandWord]
  simp [Instr.ofFields]

/-- RSP after CRC_STEP has its answer in the upper byte and zeros below (30_encoding.md R66). -/
theorem Response.word_ofCrc (crc : Byte) : (Response.ofCrc crc).word = crc ++ 0x00#8 := by
  simp only [Response.word, Response.ofCrc]
  rw [BitVec.append_assoc, BitVec.append_assoc]
  rfl

/-- The step's operands commute (40_crc8.md R74). -/
theorem crc8Step_comm (table : CrcTable) (a b : Byte) : crc8Step table a b = crc8Step table b a :=
  congrArg (tableEntry table) (BitVec.xor_comm a b)

/-- Only the xor of the step's operands matters (40_crc8.md R74). -/
theorem crc8Step_eq_zero_xor (table : CrcTable) (a b : Byte) : crc8Step table a b = crc8Step table 0 (a ^^^ b) :=
  congrArg (tableEntry table) BitVec.zero_xor.symm

/-- Equal operands answer `TABLE[0]` (40_crc8.md R74). -/
theorem crc8Step_self (table : CrcTable) (a : Byte) : crc8Step table a a = tableEntry table 0 :=
  congrArg (tableEntry table) BitVec.xor_self

end Sys2Proof.Machine
end

section
/-! The obligations on the CRC-8 engine: the accumulator through every step, and CRC_STEP. -/

namespace Sys2Proof.Machine

/-- Settles O46: each branch of an edge keeps the accumulator in step, and reset leaves the wait states. -/
theorem accumulatorKept : Obligations.AccumulatorKept := by
  intro s t h hcrc hstep
  rcases h.step_cases with ⟨-, hs⟩ | ⟨-, u, hs, he⟩ <;> cases hs.symm.trans hstep
  · exact State.CrcInStep.nextInputs (State.crcInStep_of_idle rfl)
  · exact (he.crcInStep h.beginEdge hcrc).nextInputs

/-- Settles O20: the answer and its word, the fields of a word of the row, and the step as a function of its operands'
xor. -/
theorem crcStepAnswers : Obligations.CrcStepAnswers := by
  refine ⟨fun s acc byte h => ?_, fun cmd romIn h => decode_of_crcStep_row h romIn,
    fun table a b => ⟨crc8Step_comm table a b, crc8Step_eq_zero_xor table a b⟩, fun a => ?_, by decide⟩
  · rw [exec_crcStep h, State.respond, Response.word_ofCrc]
    rfl
  · rw [crc8Step_self]
    decide

end Sys2Proof.Machine
end

section
/-! SUPPORT. The steps of a pass, each from its own wait state: `exec` of a request's row is the step of the state that issued
it (41_search.md R82 to R89), and what the steps that choose, record, write and advance answer. -/

namespace Sys2Proof.Machine

/-! ### The rows as steps of the pass -/

theorem State.Awaiting.fsm_eq {s : State} {f : Fsm} (h : s.Awaiting f) : s.fsm = f := h.2.1

theorem exec_phyResetBus {s : State} (h : s.Awaiting .rstWait) :
    exec .phyResetBus s = .next (s.onReset s.inputs.phyBit s.inputs.phyErr) :=
  State.takeResponse_of_awaiting h (List.mem_singleton_self _) nofun

theorem exec_phyWriteByte {s : State} (h : s.Awaiting .cmdWait) (v : Byte) :
    exec (.phyWriteByte v) s = .next (s.onCommandByte s.inputs.phyErr) :=
  State.takeResponse_of_awaiting h (List.mem_singleton_self _) nofun

/-- READ_BIT's first answer at a position is IDB (41_search.md R84). -/
theorem exec_phyReadBit_idWait {s : State} (h : s.Awaiting .idWait) :
    exec .phyReadBit s = .next (s.onIdBit s.inputs.phyBit s.inputs.phyErr) :=
  (State.takeResponse_of_awaiting h (by simp) nofun).trans (if_pos h.fsm_eq)

/-- READ_BIT's second answer at a position is CMPB (41_search.md R85). -/
theorem exec_phyReadBit_cmpWait {s : State} (h : s.Awaiting .cmpWait) :
    exec .phyReadBit s = s.onCmpBit s.inputs.phyBit s.inputs.phyErr :=
  (State.takeResponse_of_awaiting h (by simp) nofun).trans (if_neg (by rw [h.fsm_eq]; nofun))

theorem exec_phyWriteBit {s : State} (h : s.Awaiting .dirWait) (d : Bool) :
    exec (.phyWriteBit d) s = s.onDirection s.inputs.phyErr :=
  State.takeResponse_of_awaiting h (List.mem_singleton_self _) nofun

theorem exec_next {s : State} (h : s.Accepting) : exec .next s = .next (s.beginSearch .search) :=
  State.accept_of_accepting h

/-! ### The words put out -/

/-- WRITE_BIT's two words (30_encoding.md R67). -/
theorem Request.writeBit_eq (d : Bool) : Request.writeBit d = if d = true then 0x101#10 else 0x100#10 := by
  cases d <;> rfl

/-- RSP after a search command has FOUND alone (30_encoding.md R66). -/
theorem Response.word_ofFound (found : Bool) :
    (Response.ofFound found).word = if found = true then 0x0001 else 0x0000 := by
  cases found <;> rfl

/-! ### CMP_WAIT -/

/-- choose_direction with LD and P compared as numbers (41_search.md R86). -/
theorem State.chooseDirection_eq (s : State) :
    s.chooseDirection =
      if s.pass.idb ≠ s.pass.cmpb then s.pass.idb
      else if s.pass.p.toNat < s.search.ld.toNat then romBit s.search.rom s.pass.p.toNat
      else if s.pass.p.toNat = s.search.ld.toNat then true else false := by
  simp only [State.chooseDirection, BitVec.toNat_inj, Bool.if_false_right, Bool.and_true]

/-- The direction at a discrepancy: ROM replayed before LD, 1 at LD, 0 past it (41_search.md R86). -/
theorem State.chooseDirection_of_discrepancy {s : State} (h : s.pass.idb = s.pass.cmpb) :
    s.chooseDirection =
      if s.pass.p.toNat < s.search.ld.toNat then romBit s.search.rom s.pass.p.toNat
      else if s.pass.p.toNat = s.search.ld.toNat then true else false := by
  rw [s.chooseDirection_eq, if_neg (not_not_intro h)]

theorem PassRegs.zeroBranch_iff (p : PassRegs) (d : Bool) :
    p.zeroBranch d = true ↔ p.idb = false ∧ p.cmpb = false ∧ d = false := by
  simp [PassRegs.zeroBranch, and_assoc]

/-- record_discrepancy writes LZ, and LFD in the first byte, at the 0 of a discrepancy alone (41_search.md R87). -/
theorem State.recordDiscrepancy_eq (s : State) (d : Bool) :
    s.recordDiscrepancy d =
      { s with
        pass :=
          { s.pass with
            lz := if s.pass.idb = false ∧ s.pass.cmpb = false ∧ d = false then s.pass.p else s.pass.lz }
        search :=
          { s.search with
            lfd :=
              if (s.pass.idb = false ∧ s.pass.cmpb = false ∧ d = false) ∧ s.pass.p.toNat ≤ 8 then s.pass.p
              else s.search.lfd } } := by
  simp only [State.recordDiscrepancy, PassRegs.zeroBranch_iff, Bool.and_eq_true, decide_eq_true_eq]

/-- The direction is stored in a byte that ROM has, and issued (41_search.md R88). -/
theorem State.writeDirection_of_byte_lt {s : State} (hb : s.pass.byte.toNat < 8) (d : Bool) :
    s.writeDirection d =
      .next ((State.issue
        { s with
          pass := { s.pass with dir := d }
          search := { s.search with
            rom := s.search.rom.set s.pass.byte.toNat
              (if d = true then s.search.rom[s.pass.byte.toNat] ||| s.pass.mask
               else s.search.rom[s.pass.byte.toNat] &&& ~~~s.pass.mask) } }
        (Request.writeBit d)).goto .dirWait) := by
  simp only [State.writeDirection, storeBit_of_lt _ _ _ hb]

/-- Unless both bits are 1, the direction is chosen, recorded and written (41_search.md R85). -/
theorem State.onCmpBit_of_no_violation {s : State} {bit d : Bool} (h : (s.pass.idb && bit) = false)
    (hd : d = (s.withCmpb bit).chooseDirection) :
    s.onCmpBit bit false = ((s.withCmpb bit).recordDiscrepancy d).writeDirection d := by
  subst hd
  exact if_neg (Bool.not_eq_true _ ▸ h)

/-! ### DIR_WAIT -/

/-- With the counters advanced, byte 8 ends the pass and any other goes on with a first read (41_search.md R89). -/
theorem State.onDirection_of_advance {s : State} {q : PassRegs}
    (h : s.pass.advance s.crc8Table s.search.rom = some q) :
    s.onDirection false =
      if q.byte = 8#4 then .next (State.evaluate { s with pass := q })
      else .next ((State.issue { s with pass := q } Request.readBit).goto .idWait) := by
  simp only [State.onDirection, h, Bool.false_eq_true, if_false]

/-- The byte fed last is byte 7 (41_search.md R89). -/
theorem byte_add_one_eq_eight_iff (b : BitVec 4) : b + 1 = 8#4 ↔ b.toNat = 7 := by
  revert b; decide

end Sys2Proof.Machine
end

section
/-! The obligations on the search pass: the answer to each request, the direction, the evaluation and the end. -/

namespace Sys2Proof.Machine

/-- Settles O32: an error, both bits 1, or the direction chosen from the second bit just read. -/
theorem secondReadResponse : Obligations.SecondReadResponse := by
  intro s h hb
  rw [exec_phyReadBit_cmpWait h]
  refine ⟨fun he => ?_, fun he hid hbit => ?_, fun he hnot d hd => ?_⟩
  · rw [he]
    rfl
  · rw [he, hbit]
    exact State.onCmpBit_of_violation (by rw [hid]; rfl)
  · have hno : (s.pass.idb && s.inputs.phyBit) = false := by simpa using hnot
    have hdir : d = (s.withCmpb s.inputs.phyBit).chooseDirection :=
      hd.trans (s.withCmpb s.inputs.phyBit).chooseDirection_eq.symm
    have hlt : ((s.withCmpb s.inputs.phyBit).recordDiscrepancy d).pass.byte.toNat < 8 := hb
    rw [he, State.onCmpBit_of_no_violation hno hdir, State.writeDirection_of_byte_lt hlt, Request.writeBit_eq]
    simp only [State.recordDiscrepancy_eq]
    rfl

/-- Settles O33: P is past an LD of 0, and at or before an LD of 64. -/
theorem directionCornerCases : Obligations.DirectionCornerCases := by
  intro s hid hcmp h1 h64
  rw [State.chooseDirection_of_discrepancy (hid.trans hcmp.symm)]
  constructor <;> intro hld <;> rw [hld]
  · have hlt : ¬ s.pass.p.toNat < (0 : Position).toNat := Nat.not_lt_zero _
    have hne : s.pass.p.toNat ≠ (0 : Position).toNat := Nat.ne_of_gt h1
    rw [if_neg hlt, if_neg hne]
  · rw [show (64 : Position).toNat = 64 from rfl]
    by_cases hp : s.pass.p.toNat ≤ 63
    · rw [if_pos hp, if_pos (by omega)]
    · rw [if_neg hp, if_neg (by omega), if_pos (by omega)]

/-- Settles O34: an error, a position inside a byte, which leaves BYTE below 8, or the end of a byte, after BYTE 7 of the
pass. -/
theorem writeBitResponse : Obligations.WriteBitResponse := by
  intro s d h hb
  rw [exec_phyWriteBit h]
  refine ⟨fun he => ?_, fun he hmask => ?_, fun he hmask q hq => ?_⟩ <;> rw [he]
  · rfl
  · have hbyte : s.pass.byte ≠ 8#4 := fun h8 => absurd hb (by rw [h8]; decide)
    rw [State.onDirection_of_advance (PassRegs.advance_of_ne hmask), if_neg hbyte]
    rfl
  · have hadvance : s.pass.advance s.crc8Table s.search.rom = some q :=
      (PassRegs.advance_of_eq hmask hb).trans (congrArg some hq.symm)
    have hbyte : q.byte = 8#4 ↔ s.pass.byte.toNat = 7 := by
      rw [hq]
      exact byte_add_one_eq_eight_iff _
    simp only [State.onDirection_of_advance hadvance, hbyte, apply_ite Host.Outcome.next]
    rfl

/-- Settles O22: begin_search's two branches, from the SearchState as it is. -/
theorem nextContinuesOrEnds : Obligations.NextContinuesOrEnds := by
  intro s h
  rw [exec_next h]
  obtain ⟨-, hidle, -⟩ := h
  rcases s.beginSearch_cases .search with ⟨hldf, hs⟩ | ⟨hldf, hs⟩ <;> rw [hs, hldf]
  · refine ⟨nofun, fun _ => ?_⟩
    rw [State.finish_search _ _ rfl, ← hidle]
    rfl
  · exact ⟨fun _ => rfl, nofun⟩

/-- Settles O29: R82's branches are the step's own. -/
theorem resetBusResponse : Obligations.ResetBusResponse := fun _ h => exec_phyResetBus h

/-- Settles O30: the step reads neither the byte nor BIT. -/
theorem writeByteResponse : Obligations.WriteByteResponse := fun _ v h => exec_phyWriteByte h v

/-- Settles O31: R84's branches are the step's own. -/
theorem firstReadResponse : Obligations.FirstReadResponse := fun _ h => exec_phyReadBit_idWait h

/-- Settles O35: the three ways `evaluate` ends exclude each other. -/
theorem evaluationOrder : Obligations.EvaluationOrder := by
  intro s
  rcases s.evaluate_cases with ⟨hcrc, h⟩ | ⟨hcrc, hfam, h⟩ | ⟨hcrc, hfam, h⟩
  · exact ⟨fun _ => h, fun h0 => absurd h0 hcrc, fun h0 => absurd h0 hcrc⟩
  · exact ⟨fun hne => absurd hcrc hne, fun _ _ => h, fun _ hne => absurd hfam hne⟩
  · exact ⟨fun hne => absurd hcrc hne, fun _ h0 => absurd h0 hfam, fun _ _ => h⟩

/-- Settles O36: VERIFY's answer is FOUND and the equality of ROM and VROM, taken before the restore. -/
theorem finishAnswers : Obligations.FinishAnswers := by
  intro s found l
  refine ⟨fun h => ?_, fun h m hm => ?_⟩
  · rw [State.finish_search _ _ h, State.respond, Response.word_ofFound]
    rfl
  · have hmatch : verifyMatch found s.search.rom s.vrom = m := by
      rw [hm, verifyMatch, Bool.decide_and, Bool.decide_eq_true]
    rw [State.finish_verify _ _ h, hmatch, State.respond, Response.word_ofFound]
    rfl

end Sys2Proof.Machine
end

section
/-! SUPPORT. What an edge of a pass can answer, said once: the pass goes on, or it ends in `finish` (41_search.md R90 to R92,
60_exceptions.md R131), found only after position 64 with CRC 0 and a nonzero family byte. -/

namespace Sys2Proof.Machine

/-- `t` has what a pass reads and never writes: the mode, VERIFY's save area and VROM, LD, LDF and the parameter (42_session.md
R102, 41_search.md R86). -/
structure State.SamePass (s t : State) : Prop where
  mode : t.mode = s.mode
  saved : t.saved = s.saved
  vrom : t.vrom = s.vrom
  ld : t.search.ld = s.search.ld
  ldf : t.search.ldf = s.search.ldf
  table : t.crc8Table = s.crc8Table

theorem State.SamePass.refl (s : State) : s.SamePass s := ⟨rfl, rfl, rfl, rfl, rfl, rfl⟩

theorem State.SamePass.trans {s t u : State} (h : s.SamePass t) (h' : t.SamePass u) : s.SamePass u :=
  ⟨h'.mode.trans h.mode, h'.saved.trans h.saved, h'.vrom.trans h.vrom, h'.ld.trans h.ld, h'.ldf.trans h.ldf,
    h'.table.trans h.table⟩

/-- What the evaluation after position 64 found to be so of a found id (41_search.md R90): the counters are past
position 64, CRC is 0 and the family byte is not. -/
structure State.PassFinds (s : State) : Prop where
  last : ∃ q, s.pass.advance s.crc8Table s.search.rom = some q ∧ q.byte = 8#4 ∧ q.crc = 0
  positioned : s.pass.positioned
  family : s.search.rom[0] ≠ 0

/-- `t` has what `finish` reads to answer the pass of `s`: the mode, the save area, VROM and ROM (41_search.md R92). -/
structure State.SameAnswerer (s t : State) : Prop where
  mode : t.mode = s.mode
  saved : t.saved = s.saved
  vrom : t.vrom = s.vrom
  rom : t.search.rom = s.search.rom

/-- `t` is the pass of `s` ended by `finish`, with FOUND only for an id that the evaluation accepts (41_search.md R90 to
R92). -/
def State.EndsPass (s t : State) : Prop :=
  ∃ (c : State) (found : Bool) (l : Label), t = c.finish found l ∧ s.SameAnswerer c ∧ (found = true → s.PassFinds)

/-- A failure ends the pass with nothing found (60_exceptions.md R131). -/
theorem State.EndsPass.of_fail {s c : State} (l : Label) (h : s.SameAnswerer c) : s.EndsPass (c.fail l) :=
  ⟨c.resetToInitial, false, l, rfl, ⟨h.mode, h.saved, h.vrom, h.rom⟩, nofun⟩

/-- The evaluation ends the pass (41_search.md R90). -/
theorem State.EndsPass.evaluate {s : State} {q : PassRegs} (hp : s.pass.positioned)
    (hq : s.pass.advance s.crc8Table s.search.rom = some q) (hb : q.byte = 8#4) :
    s.EndsPass (State.evaluate { s with pass := q }) := by
  rcases State.evaluate_cases { s with pass := q } with ⟨-, he⟩ | ⟨-, -, he⟩ | ⟨hcrc, hfam, he⟩ <;> rw [he]
  · exact State.EndsPass.of_fail _ ⟨rfl, rfl, rfl, rfl⟩
  · exact State.EndsPass.of_fail _ ⟨rfl, rfl, rfl, rfl⟩
  · exact ⟨_, true, .none, rfl, ⟨rfl, rfl, rfl, rfl⟩, fun _ => ⟨⟨q, hq, hb, hcrc⟩, hp, hfam⟩⟩

/-- What an edge of a pass can answer: the pass goes on with the registers it never writes, or ends. -/
theorem EdgeTo.pass_cases {s t : State} (h : s.Inv) (hw : s.fsm.waiting = true) (he : EdgeTo s t) :
    (t.fsm.waiting = true ∧ t.rspValid = s.rspValid ∧ s.SamePass t) ∨ s.EndsPass t := by
  have hidle {r : Except DecodeError Instr} (hp : s.Presented r) : False := Fsm.ne_idle_of_waiting hw hp.idle
  cases he with
  | quiet => exact .inl ⟨hw, rfl, .refl s⟩
  | illegal hp | first hp | next hp | verify hp | targetSetup hp | familySkipSetup hp | crcStep hp =>
    exact (hidle hp).elim
  | phyError | noPresence | violation => exact .inr (State.EndsPass.of_fail _ ⟨rfl, rfl, rfl, rfl⟩)
  | presence | commandByte | idBit | nextPosition => exact .inl ⟨rfl, rfl, ⟨rfl, rfl, rfl, rfl, rfl, rfl⟩⟩
  | direction _ _ hc =>
    subst hc
    exact .inl ⟨rfl, rfl, ⟨rfl, rfl, rfl, rfl, rfl, rfl⟩⟩
  | lastPosition hp hq hb => exact .inr (State.EndsPass.evaluate (hp.positioned h rfl) hq hb)

/-- The end of a pass is IDLE with RSP_VALID, and keeps the mode, VERIFY's save area and VROM (41_search.md R92). -/
theorem State.EndsPass.keeps {s t : State} (h : s.EndsPass t) :
    t.fsm = .idle ∧ t.rspValid = true ∧ t.mode = s.mode ∧ t.saved = s.saved ∧ t.vrom = s.vrom := by
  obtain ⟨c, found, l, rfl, hc, -⟩ := h
  simp [hc.mode, hc.saved, hc.vrom]

/-- VERIFY's pass ends with SearchState restored, found or not (42_session.md R102). -/
theorem State.EndsPass.restored {s t : State} (h : s.EndsPass t) (hm : s.mode = .verify) : t.search = s.saved := by
  obtain ⟨c, found, l, rfl, hc, -⟩ := h
  rw [State.finish_searchState, hc.mode, hm, hc.saved]

/-- The id a pass answers as found: ROM's, which VERIFY puts back, so that its own is VROM's (42_session.md R102). -/
def State.answeredId (s t : State) : Rom :=
  match s.mode with
  | .search => t.search.rom
  | .verify => s.vrom

/-- FOUND = 1 is answered for ROM's id, where the evaluation accepts it (41_search.md R90, R92). -/
theorem State.EndsPass.found {s t : State} (h : s.EndsPass t) (hf : t.rsp.found = true) :
    s.PassFinds ∧ s.answeredId t = s.search.rom := by
  obtain ⟨c, found, l, rfl, hc, hfinds⟩ := h
  unfold State.answeredId
  cases hmode : s.mode with
  | search =>
    rw [State.finish_search found l (hc.mode.trans hmode)] at hf ⊢
    exact ⟨hfinds hf, hc.rom⟩
  | verify =>
    rw [State.finish_verify found l (hc.mode.trans hmode)] at hf
    obtain ⟨hfound, heq⟩ : found = true ∧ c.search.rom = c.vrom := by simpa [Response.ofFound, verifyMatch] using hf
    exact ⟨hfinds hfound, hc.vrom.symm.trans (heq.symm.trans hc.rom)⟩

/-- With all eight bytes fed, CRC is the accumulator over the id (40_crc8.md R75). -/
theorem PassRegs.Fed.crc_of_byte_eq_eight {p : PassRegs} {table : CrcTable} {rom : Rom} (h : p.Fed table rom)
    (hb : p.byte = 8#4) : p.crc = crc8Run table 0 rom.toList := by
  rw [h, hb, List.take_of_length_le (by simp)]

/-- The id the evaluation accepts is valid (41_search.md R90, R95). -/
theorem State.PassFinds.validId {s : State} (h : s.PassFinds) (hfed : s.pass.Fed s.crc8Table s.search.rom) :
    validId s.crc8Table s.search.rom := by
  obtain ⟨⟨q, hq, hb, hcrc⟩, hpos, hfam⟩ := h
  exact ⟨((hfed.advance hpos hq).crc_of_byte_eq_eight hb).symm.trans hcrc, hfam⟩

/-- What a step of a pass without RST can answer: the pass goes on, or ends. -/
theorem step_pass_cases {s t : State} (h : s.Inv) (hw : s.fsm.waiting = true) (hr : s.inputs.rst = false)
    (hstep : step s = .next t) :
    ∃ u, t = u.nextInputs ∧
      ((u.fsm.waiting = true ∧ u.rspValid = false ∧ s.beginEdge.SamePass u) ∨ s.beginEdge.EndsPass u) := by
  obtain ⟨u, hs, he⟩ := h.step_of_no_rst hr
  cases hs.symm.trans hstep
  exact ⟨u, rfl, he.pass_cases h.beginEdge hw⟩

end Sys2Proof.Machine
end

section
/-! The obligations on the end of a pass: the id found is valid, and VERIFY restores. -/

namespace Sys2Proof.Machine

/-- Settles O47: only the end of a pass answers, with FOUND only for the id that the evaluation accepts, whose bytes are
then all fed to CRC. -/
theorem foundIdIsValid : Obligations.FoundIdIsValid := by
  intro s t h hcrc hw hr hstep hv hf id hid
  obtain ⟨u, rfl, ⟨-, hlow, -⟩ | hend⟩ := step_pass_cases h hw hr hstep
  · rw [State.nextInputs_rspValid, hlow] at hv
    cases hv
  · rw [State.nextInputs_rsp] at hf
    obtain ⟨hfinds, hrom⟩ := hend.found hf
    have hidrom : id = s.search.rom := by
      rw [hid, State.nextInputs_search]
      exact hrom
    rw [hidrom]
    exact hfinds.validId (hcrc hw)

/-- Settles O48: a pass that goes on writes none of the save area, and the end of VERIFY's restores from it. -/
theorem verifyRestores : Obligations.VerifyRestores := by
  intro s t h hw hm hr hstep
  obtain ⟨u, rfl, ⟨hwait, hlow, hsame⟩ | hend⟩ := step_pass_cases h hw hr hstep
  · simp [hwait, hlow, hsame.saved, hsame.vrom, hsame.mode, hm]
  · obtain ⟨hidle, hraised, hmode, hsaved, hvrom⟩ := hend.keeps
    simp [hidle, hraised, hmode, hsaved, hvrom, hm, hend.restored (s := s.beginEdge) hm]

end Sys2Proof.Machine
end

section
/-! SUPPORT. The commands that start a pass (42_session.md R100 to R102), and what an edge does to an exhausted enumeration
(42_session.md R101). -/

namespace Sys2Proof.Machine

theorem exec_first {s : State} (h : s.Accepting) :
    exec .first s = .next (s.resetToInitial.beginSearch .search) :=
  State.accept_of_accepting h

theorem exec_verify {s : State} (h : s.Accepting) (rom : BitVec 64) :
    exec (.verify rom) s = .next ((s.verifySetup (unpackRom rom)).beginSearch .verify) :=
  State.accept_of_accepting h

/-- With LDF = 0 `begin_search` starts a pass (41_search.md R80). -/
theorem State.beginSearch_of_ldf_false {s : State} (h : s.search.ldf = false) (m : Mode) :
    s.beginSearch m = State.passInit { s with mode := m } := by
  simp [State.beginSearch, h]

/-- With LDF = 1 `begin_search` answers at once (41_search.md R80). -/
theorem State.beginSearch_of_ldf_true {s : State} (h : s.search.ldf = true) (m : Mode) :
    s.beginSearch m = State.finish { s with mode := m } false .exhausted := by
  simp [State.beginSearch, h]

/-- `reset_to_initial` does nothing to the initial values (10_state.md R17, 70_reset_and_hazards.md R154). -/
theorem State.resetToInitial_of_initial {s : State} (hld : s.search.ld = 0) (hlfd : s.search.lfd = 0)
    (hldf : s.search.ldf = false) : s.resetToInitial = s := by
  have hsame : ({ s.search with ld := 0, lfd := 0, ldf := false } : SearchState) = s.search := by
    cases h : s.search
    simp_all
  rw [State.resetToInitial, hsame]

/-- `t` is idle and exhausted after an exhausted `s`: no request was issued, and RSP_FOUND is of an older response only
(42_session.md R101). -/
structure State.StaysExhausted (s t : State) : Prop where
  ldf : t.search.ldf = true
  idle : t.fsm = .idle
  request : s.KeepsRequest t
  found : t.rsp.found = (s.rsp.found && !t.rspValid)

/-- FAMILY_SKIP_SETUP never clears LDF (42_session.md R104). -/
theorem ldfAfterSkip_true (ld : Position) : ldfAfterSkip true ld = true := by simp [ldfAfterSkip]

/-- In IDLE only FIRST, TARGET_SETUP and VERIFY leave the exhausted state (42_session.md R101). -/
theorem EdgeTo.exhausted_cases {s t : State} (hi : s.fsm = .idle) (hl : s.search.ldf = true) (hv : s.rspValid = false)
    (he : EdgeTo s t) :
    s.StaysExhausted t ∨ s.Presented (.ok .first) ∨ (∃ a, s.Presented (.ok (.targetSetup a))) ∨
      ∃ r, s.Presented (.ok (.verify r)) := by
  have hbusy {f : Fsm} {err : Bool} (hp : s.Responded f err) (hf : f.waiting = true) : False :=
    Fsm.ne_idle_of_waiting (hp.waiting hf) hi
  cases he with
  | quiet => exact .inl ⟨hl, hi, ⟨rfl, rfl⟩, by simp [hv]⟩
  | illegal | crcStep =>
    exact .inl ⟨hl, hi, ⟨rfl, rfl⟩, by simp [Response.ofIllegal, Response.ofCrc]⟩
  | familySkipSetup =>
    exact .inl ⟨by simp [hl, ldfAfterSkip_true], hi, ⟨rfl, rfl⟩, by simp [Response.ofFound]⟩
  | next =>
    rw [State.beginSearch_of_ldf_true hl, State.finish_search _ _ rfl]
    exact .inl ⟨hl, rfl, ⟨rfl, rfl⟩, by simp [Response.ofFound]⟩
  | first hp => exact .inr (.inl hp)
  | targetSetup hp => exact .inr (.inr (.inl ⟨_, hp⟩))
  | verify hp => exact .inr (.inr (.inr ⟨_, hp⟩))
  | phyError hp hw => exact (hbusy hp hw).elim
  | noPresence hp | presence hp | commandByte hp | idBit hp | violation hp | direction hp | nextPosition hp
  | lastPosition hp => exact (hbusy hp rfl).elim

end Sys2Proof.Machine
end

section
/-! The obligations on the session commands: what each writes and starts, and exhaustion kept. -/

namespace Sys2Proof.Machine

/-- Settles O21: after `reset_to_initial` LDF is 0, so a pass starts. -/
theorem firstStartsPass : Obligations.FirstStartsPass := by
  intro s h
  rw [exec_first h, State.beginSearch_of_ldf_false rfl]
  rfl

/-- Settles O23: VERIFY's setup leaves LDF = 0, so a pass starts whatever LDF was. -/
theorem verifyStartsPass : Obligations.VerifyStartsPass := by
  intro s rom h
  rw [exec_verify h, State.beginSearch_of_ldf_false rfl]
  rfl

/-- Settles O24: the answer with the target's SearchState. -/
theorem targetSetupWrites : Obligations.TargetSetupWrites := fun _ a h => exec_targetSetup h a

/-- Settles O25: the answer with the family skipped. -/
theorem familySkipWrites : Obligations.FamilySkipWrites := fun _ h => exec_familySkipSetup h

/-- Settles O27: FIRST is NEXT after `reset_to_initial`, which the initial values do not change. -/
theorem nextIsFirstFromInitial : Obligations.NextIsFirstFromInitial := by
  intro s hld hlfd hldf
  calc exec .next s = s.accept (.next (s.beginSearch .search)) := rfl
    _ = s.accept (.next (s.resetToInitial.beginSearch .search)) := by
        rw [State.resetToInitial_of_initial hld hlfd hldf]

/-- Settles O52: of the branches of an edge in IDLE, only the three excluded commands leave the exhausted state. -/
theorem exhaustionIsKept : Obligations.ExhaustionIsKept := by
  intro s t h hi hl hr hstep hnot
  obtain ⟨u, hs, he⟩ := h.step_of_no_rst hr
  cases hs.symm.trans hstep
  have hother {i : Instr} (hp : s.beginEdge.Presented (.ok i)) :
      i ≠ .first ∧ (∀ a, i ≠ .targetSetup a) ∧ ∀ r, i ≠ .verify r := hnot hp.valid i hp.decoded
  rcases he.exhausted_cases (s := s.beginEdge) hi hl rfl with hstays | hp | ⟨a, hp⟩ | ⟨r, hp⟩
  · obtain ⟨hldf, hidle, ⟨hlow, hkept⟩, hfound⟩ := hstays
    simp [hldf, hidle, hlow, hkept, hfound]
  · exact absurd rfl (hother hp).1
  · exact absurd rfl ((hother hp).2.1 a)
  · exact absurd rfl ((hother hp).2.2 r)

end Sys2Proof.Machine
end

section
/-! SUPPORT. An edge answers the branch its condition leads to: the converse of `State.Inv.edgeTo`. -/

namespace Sys2Proof.Machine

/-- A command presented under the invariant is accepted, so that its meaning is the edge (30_encoding.md R64). -/
theorem State.Presented.edge_eq {s t : State} {i : Instr} (h : s.Inv) (hr : s.inputs.rst = false)
    (hp : s.Presented (.ok i)) (hi : exec i s = s.accept (.next t)) : edge s = .next t := by
  rw [edge_of_command hp.idle hp.valid hp.decoded, hi, State.accept_of_accepting ⟨h.range, hp.idle, hr⟩]

/-- The step of the wait state `f` on the PHY's response (41_search.md R82 to R89). -/
def State.onResponse (s : State) (f : Fsm) (bit err : Bool) : Result :=
  match f with
  | .rstWait => .next (s.onReset bit err)
  | .cmdWait => .next (s.onCommandByte err)
  | .idWait => .next (s.onIdBit bit err)
  | .cmpWait => s.onCmpBit bit err
  | _ => s.onDirection err

/-- A response taken under the invariant runs the step of its wait state (41_search.md R82 to R89). -/
theorem State.Responded.edge_eq {s : State} {f : Fsm} {err : Bool} (h : s.Inv) (hr : s.inputs.rst = false)
    (hp : s.Responded f err) (hf : f.waiting = true) : edge s = s.onResponse f s.inputs.phyBit err := by
  obtain ⟨rfl, hv, rfl⟩ := hp
  rw [edge_waiting s h hf hr, if_pos hv]
  rfl

/-- With ERR = 1 every wait state fails (60_exceptions.md R135). -/
theorem State.onResponse_err (s : State) (f : Fsm) (bit : Bool) :
    s.onResponse f bit true = .next (s.fail .phyError) := by
  cases f <;> rfl

/-- Under the invariant an edge answers the branch that its condition leads to. -/
theorem EdgeTo.edge_eq {s t : State} (h : s.Inv) (hr : s.inputs.rst = false) (he : EdgeTo s t) : edge s = .next t := by
  cases he with
  | quiet hq =>
    rcases hq with ⟨hi, hv⟩ | ⟨hw, hv⟩
    · rw [edge_idle s hi, hv]
      exact State.guarded_of_inRange h.range
    · rw [edge_waiting s h hw hr, hv]
      rfl
  | illegal hp =>
    rw [edge_idle s hp.idle, if_pos hp.valid, hp.decoded]
    exact State.accept_of_accepting ⟨h.range, hp.idle, hr⟩
  | first hp | next hp | verify hp | targetSetup hp | familySkipSetup hp | crcStep hp => exact hp.edge_eq h hr rfl
  | phyError hp hw => rw [hp.edge_eq h hr hw, State.onResponse_err]
  | noPresence hp hb | presence hp hb =>
    rw [hp.edge_eq h hr rfl, hb]
    rfl
  | commandByte hp | idBit hp =>
    rw [hp.edge_eq h hr rfl]
    rfl
  | violation hp hb => exact (hp.edge_eq h hr rfl).trans (State.onCmpBit_of_violation hb)
  | direction hp hb hc => exact (hp.edge_eq h hr rfl).trans (State.onCmpBit_of_positioned (hp.positioned h rfl) hb hc)
  | nextPosition hp hq hb =>
    exact (hp.edge_eq h hr rfl).trans ((State.onDirection_of_advance hq).trans (if_neg hb))
  | lastPosition hp hq hb =>
    exact (hp.edge_eq h hr rfl).trans ((State.onDirection_of_advance hq).trans (if_pos hb))

end Sys2Proof.Machine
end

section
/-! SUPPORT. An id is its 64 bits (20_memory.md R42), and the position at which a pass ends. -/

namespace Sys2Proof.Machine

/-- A byte of the id is its eight positions (20_memory.md R42). -/
theorem getElem_eq_of_romBit {a b : Rom} {i : Nat} (hi : i < 8)
    (h : ∀ q : Nat, 8 * i < q → q ≤ 8 * i + 8 → romBit a q = romBit b q) : a[i] = b[i] := by
  apply BitVec.eq_of_getLsbD_eq
  intro m hm
  have hdiv : (8 * i + m + 1 - 1) / 8 = i := by omega
  have hmod : (8 * i + m + 1 - 1) % 8 = m := by omega
  have hbit (r : Rom) : romBit r (8 * i + m + 1) = r[i].getLsbD m := by
    rw [romBit_of_range r (by omega)]
    simp only [hdiv, hmod]
  rw [← hbit a, ← hbit b]
  exact h _ (by omega) (by omega)

/-- Two ids that agree at all 64 positions are equal (20_memory.md R42). -/
theorem rom_eq_of_sameBefore {a b : Rom} (h : sameBefore a b 65) : a = b := by
  ext i hi : 1
  exact getElem_eq_of_romBit hi fun q hq hq' => h q (by omega) (by omega)

/-- The mask of a byte's last position (10_state.md R19). -/
theorem PassRegs.positioned.mask_eq_last_iff {p : PassRegs} (h : p.positioned) :
    p.mask = 0x80#8 ↔ p.p.toNat = 8 * p.byte.toNat + 8 := by
  obtain ⟨k, hk, hmask, hbyte, hp⟩ := h
  have hlast : ∀ j < 8, 1#8 <<< j = 0x80#8 ↔ j = 7 := by decide
  rw [hmask, hlast k hk]
  omega

/-- BYTE is 8 after position 64 and no other (41_search.md R89). -/
theorem PassRegs.positioned.byte_eq_eight_iff {p q : PassRegs} {table : CrcTable} {rom : Rom} (h : p.positioned)
    (hq : p.advance table rom = some q) : q.byte = 8#4 ↔ p.p.toNat = 64 := by
  have hlt := h.byte_lt
  have hbyte : p.p.toNat = 64 ↔ p.byte.toNat = 7 ∧ p.p.toNat = 8 * p.byte.toNat + 8 := by
    obtain ⟨k, hk, -, -, hp⟩ := h
    omega
  rw [hbyte, ← h.mask_eq_last_iff]
  by_cases hm : p.mask = 0x80#8
  · cases hq.symm.trans (PassRegs.advance_of_eq hm hlt)
    simpa [hm] using byte_add_one_eq_eight_iff p.byte
  · cases hq.symm.trans (PassRegs.advance_of_ne hm)
    have hne : p.byte ≠ 8#4 := fun h8 => absurd hlt (by rw [h8]; decide)
    simp [hne, hm]

end Sys2Proof.Machine
end

section
/-! SUPPORT. Two passes with LD = 0 that differ in bits of ROM not yet written (42_session.md R100, 41_search.md R86): no branch
of an edge reads those bits. -/

namespace Sys2Proof.Machine

/-! ### Another ROM in the same state -/

/-- `s` with ROM holding `rom`. -/
def State.withRom (s : State) (rom : Rom) : State := { s with search := { s.search with rom := rom } }

theorem SamePath.eq_withRom {s t : State} (h : SamePath s t) : t = s.withRom t.search.rom := h.same

theorem State.Responded.withRom {s : State} {f : Fsm} {err : Bool} (h : s.Responded f err) (rom : Rom) :
    (s.withRom rom).Responded f err := ⟨h.fsm, h.valid, h.err⟩

/-- The input levels that come next do not depend on ROM. -/
theorem State.withRom_nextInputs (s : State) (rom : Rom) :
    (s.withRom rom).nextInputs = s.nextInputs.withRom rom := by
  cases hs : s.script <;> simp [State.nextInputs, State.withRom, hs]

/-- With LD = 0 no ROM bit is replayed (41_search.md R86). -/
theorem State.chooseDirection_withRom {s : State} (h : s.search.ld = 0) (rom : Rom) :
    (s.withRom rom).chooseDirection = s.chooseDirection := by
  simp [State.chooseDirection, State.withRom, h]

/-- A failure of FIRST or NEXT does not read ROM (60_exceptions.md R131). -/
theorem State.withRom_fail {s : State} (h : s.mode = .search) (rom : Rom) (l : Label) :
    (s.withRom rom).fail l = (s.fail l).withRom rom := by
  unfold State.fail
  rw [State.finish_search (s := s.resetToInitial) _ _ h,
    State.finish_search (s := (s.withRom rom).resetToInitial) _ _ h]
  rfl

/-- The counters and the CRC read the positions written only (41_search.md R89). -/
theorem PassRegs.positioned.advance_congr {p : PassRegs} (h : p.positioned) (table : CrcTable) {a b : Rom}
    (hsame : sameBefore a b (p.p.toNat + 1)) : p.advance table a = p.advance table b := by
  by_cases hm : p.mask = 0x80#8
  · have hp := h.mask_eq_last_iff.mp hm
    have hbyte : a[p.byte.toNat]'h.byte_lt = b[p.byte.toNat]'h.byte_lt :=
      getElem_eq_of_romBit h.byte_lt fun q hq hq' => hsame q (by omega) (by omega)
    rw [PassRegs.advance_of_eq hm h.byte_lt, PassRegs.advance_of_eq hm h.byte_lt, hbyte]
  · rw [PassRegs.advance_of_ne hm, PassRegs.advance_of_ne hm]

/-! ### The pulses and the inputs -/

theorem SamePath.beginEdge {s t : State} (h : SamePath s t) : SamePath s.beginEdge t.beginEdge :=
  ⟨h.waiting, h.cursor, h.modeSearch, congrArg State.beginEdge h.same, h.written, h.current⟩

theorem SamePath.nextInputs {s t : State} (h : SamePath s t) : SamePath s.nextInputs t.nextInputs where
  waiting := by simpa using h.waiting
  cursor := by simpa using h.cursor
  modeSearch := by simpa using h.modeSearch
  same := by
    have hnext : t.nextInputs = s.nextInputs.withRom t.search.rom := by
      rw [h.eq_withRom, State.withRom_nextInputs]
      rfl
    rw [State.nextInputs_search t]
    exact hnext
  written := by simpa using h.written
  current := by simpa using h.current

/-- In DIR_WAIT the two ids agree up to position P (41_search.md R88). -/
theorem SamePath.upTo {s t : State} (h : SamePath s t) (hf : s.fsm = .dirWait) :
    sameBefore t.search.rom s.search.rom (s.pass.p.toNat + 1) := by
  intro q hq hq'
  rcases Nat.lt_or_eq_of_le (Nat.le_of_lt_succ hq') with hlt | rfl
  · exact h.written (by rw [hf]; rfl) q hq hlt
  · exact h.current hf

/-- The invariant does not depend on the bits of ROM not yet written. -/
theorem SamePath.inv {s t : State} (h : SamePath s t) (hs : s.Inv) : t.Inv := by
  obtain ⟨rom, rfl⟩ : ∃ rom, t = s.withRom rom := ⟨_, h.eq_withRom⟩
  exact ⟨hs.range, hs.savedLd, hs.savedLfd, hs.start, hs.position, hs.request,
    fun hf => (h.current hf).trans (hs.stored hf), hs.notExhausted⟩

/-! ### The branches of an edge -/

/-- `v` answers as `u` does: the same is put out, a pass that goes on stays on the path, and a found id leaves the same
state. -/
structure SameAnswer (u v : State) : Prop where
  trace : v.trace = u.trace
  rsp : v.rsp = u.rsp
  fsm : v.fsm = u.fsm
  phyReq : v.phyReq = u.phyReq
  onPath : u.fsm.waiting = true → SamePath u v
  found : u.fsm = .idle → u.rsp.found = true → v = u

theorem SameAnswer.of_idle {u : State} (h : u.fsm = .idle) : SameAnswer u u :=
  ⟨rfl, rfl, rfl, rfl, fun hw => absurd h (Fsm.ne_idle_of_waiting hw), fun _ _ => rfl⟩

theorem SameAnswer.of_samePath {u v : State} (h : SamePath u v) : SameAnswer u v := by
  obtain ⟨rom, rfl⟩ : ∃ rom, v = u.withRom rom := ⟨_, h.eq_withRom⟩
  exact ⟨rfl, rfl, rfl, rfl, fun _ => h, fun hi => absurd hi (Fsm.ne_idle_of_waiting h.waiting)⟩

/-- Two failures of FIRST or NEXT put out the same, and find nothing (60_exceptions.md R131). -/
theorem SameAnswer.fail {s : State} (h : s.mode = .search) (rom : Rom) (l : Label) :
    SameAnswer (s.fail l) ((s.withRom rom).fail l) := by
  rw [State.withRom_fail h]
  have hidle : (s.fail l).fsm = .idle := State.finish_fsm ..
  have hfound : (s.fail l).rsp.found = false := by
    rw [State.fail, State.finish_search (s := s.resetToInitial) _ _ h]
    rfl
  exact ⟨rfl, rfl, rfl, rfl, fun hw => absurd hidle (Fsm.ne_idle_of_waiting hw),
    fun _ hf => by rw [hfound] at hf; cases hf⟩

theorem SameAnswer.nextInputs {u v : State} (h : SameAnswer u v) : SameAnswer u.nextInputs v.nextInputs where
  trace := by simpa using h.trace
  rsp := by simpa using h.rsp
  fsm := by simpa using h.fsm
  phyReq := by simpa using h.phyReq
  onPath := fun hw => (h.onPath (by simpa using hw)).nextInputs
  found := fun hi hf => congrArg State.nextInputs (h.found (by simpa using hi) (by simpa using hf))

/-- The direction chosen is written at P in both, and the positions before P are as they were (41_search.md R88). -/
theorem SamePath.directed {s : State} {rom : Rom} (h : SamePath s (s.withRom rom)) (hp : s.pass.positioned)
    (hl : s.fsm.inLoop = true) {c : State} (hc : c = s.withCmpb s.inputs.phyBit) (d : Bool) :
    SamePath ((c.recordDiscrepancy d).directed d) (((c.withRom rom).recordDiscrepancy d).directed d) := by
  subst hc
  have hbit (r : Rom) {q : Nat} (hq : 1 ≤ q ∧ q ≤ 64) :
      romBit (setRomBit r s.pass.p.toNat d) q = if q = s.pass.p.toNat then d else romBit r q :=
    romBit_setRomBit r d hp.p_bounds hq
  refine ⟨rfl, h.cursor, h.modeSearch, rfl, fun _ q hq hlt => ?_, fun _ => ?_⟩
  · have hq64 : 1 ≤ q ∧ q ≤ 64 := ⟨hq, (Nat.le_of_lt hlt).trans hp.p_bounds.2⟩
    exact (hbit rom hq64).trans ((if_congr Iff.rfl rfl (h.written hl q hq hlt)).trans (hbit s.search.rom hq64).symm)
  · exact (hbit rom hp.p_bounds).trans ((if_pos rfl).trans ((hbit s.search.rom hp.p_bounds).trans (if_pos rfl)).symm)

/-- Each branch of an edge from one of the two passes is a branch from the other, with the same answer. -/
theorem EdgeTo.sameAnswer {s u : State} {rom : Rom} (h : s.Inv) (hp : SamePath s (s.withRom rom)) (he : EdgeTo s u) :
    ∃ v, EdgeTo (s.withRom rom) v ∧ SameAnswer u v := by
  have hm := hp.modeSearch
  have hidle {r : Except DecodeError Instr} (hc : s.Presented r) : False := Fsm.ne_idle_of_waiting hp.waiting hc.idle
  cases he with
  | quiet hq => exact ⟨_, .quiet hq, .of_samePath hp⟩
  | illegal hc | first hc | next hc | verify hc | targetSetup hc | familySkipSetup hc | crcStep hc =>
    exact (hidle hc).elim
  | phyError hr hw => exact ⟨_, .phyError (hr.withRom rom) hw, .fail hm rom _⟩
  | noPresence hr hb => exact ⟨_, .noPresence (hr.withRom rom) hb, .fail hm rom _⟩
  | violation hr hb =>
    exact ⟨_, .violation (hr.withRom rom) hb, SameAnswer.fail (s := s.withCmpb s.inputs.phyBit) hm rom _⟩
  | presence hr hb =>
    exact ⟨_, .presence (hr.withRom rom) hb, .of_samePath ⟨rfl, hp.cursor, hm, rfl, nofun, nofun⟩⟩
  | commandByte hr =>
    obtain ⟨hstart, -⟩ := h.start (.inr hr.fsm)
    refine ⟨_, .commandByte (hr.withRom rom), .of_samePath ⟨rfl, hp.cursor, hm, rfl, fun _ q hq hlt => ?_, nofun⟩⟩
    have hlt1 : q < s.pass.p.toNat := hlt
    rw [hstart] at hlt1
    exact absurd hq (Nat.not_le_of_lt hlt1)
  | idBit hr =>
    have hl : s.fsm.inLoop = true := by rw [hr.fsm]; rfl
    exact ⟨_, .idBit (hr.withRom rom), .of_samePath ⟨rfl, hp.cursor, hm, rfl, fun _ => hp.written hl, nofun⟩⟩
  | @direction c hr hb hc =>
    have hl : s.fsm.inLoop = true := by rw [hr.fsm]; rfl
    have hdir : (c.withRom rom).chooseDirection = c.chooseDirection :=
      State.chooseDirection_withRom (by rw [hc]; exact hp.cursor) rom
    have hpath := hp.directed (hr.positioned h rfl) hl hc c.chooseDirection
    exact ⟨_, .direction (c := c.withRom rom) (hr.withRom rom) hb (by rw [hc]; rfl),
      .of_samePath (by rw [hdir]; exact hpath)⟩
  | @nextPosition q hr hq hb =>
    have hpos := hr.positioned h rfl
    have hq' : (s.withRom rom).pass.advance (s.withRom rom).crc8Table (s.withRom rom).search.rom = some q :=
      (hpos.advance_congr s.crc8Table (hp.upTo hr.fsm)).trans hq
    obtain ⟨q', hadv, -, hnext, -⟩ := hpos.advance s.crc8Table s.search.rom
    obtain rfl : q' = q := Option.some.inj (hadv.symm.trans hq)
    refine ⟨_, .nextPosition (hr.withRom rom) hq' hb, .of_samePath ⟨rfl, hp.cursor, hm, rfl, fun _ => ?_, nofun⟩⟩
    have hup := hp.upTo hr.fsm
    rw [← hnext] at hup
    exact hup
  | lastPosition hr hq hb =>
    have hpos := hr.positioned h rfl
    have hup := hp.upTo hr.fsm
    rw [(hpos.byte_eq_eight_iff hq).mp hb] at hup
    obtain rfl : rom = s.search.rom := rom_eq_of_sameBefore hup
    exact ⟨_, .lastPosition hr hq hb, .of_idle (State.evaluate_fsm _)⟩

/-- An edge with RST = 1 leaves nothing of ROM (70_reset_and_hazards.md R151). -/
theorem State.withRom_resetEdge (s : State) (rom : Rom) : (s.withRom rom).resetEdge = s.resetEdge := rfl

/-- A step from one of the two passes has its answer from the other too. -/
theorem SamePath.step_sameAnswer {s t : State} (h : s.Inv) (hp : SamePath s t) {s' : State} (hs : step s = .next s') :
    ∃ t', step t = .next t' ∧ SameAnswer s' t' := by
  have ht := hp.inv h
  obtain ⟨rom, rfl⟩ : ∃ rom, t = s.withRom rom := ⟨_, hp.eq_withRom⟩
  rcases h.step_cases with ⟨hr, hstep⟩ | ⟨hr, u, hstep, he⟩ <;> cases hstep.symm.trans hs
  · refine ⟨_, step_of_rst (s := s.withRom rom) hr, ?_⟩
    rw [State.withRom_resetEdge]
    exact (SameAnswer.of_idle rfl).nextInputs
  · obtain ⟨v, hv, hsame⟩ := he.sameAnswer h.beginEdge hp.beginEdge
    have hedge : edge (s.withRom rom).beginEdge = .next v := hv.edge_eq ht.beginEdge hr
    exact ⟨v.nextInputs, by rw [step_of_no_rst (s := s.withRom rom) hr, hedge]; rfl, hsame.nextInputs⟩

end Sys2Proof.Machine
end

section
/-! The obligation on what a pass reads of the ROM it starts with. -/

namespace Sys2Proof.Machine

/-- Settles O49: with LD = 0 no branch of an edge reads a bit of ROM not yet written, and at the end all are written. -/
theorem passIgnoresOldRom : Obligations.PassIgnoresOldRom := by
  intro s t s' h hp hs
  obtain ⟨t', ht, hsame⟩ := hp.step_sameAnswer h hs
  exact ⟨t', ht, hsame.trace, hsame.rsp, hsame.fsm, hsame.phyReq, hsame.onPath, hsame.found⟩

end Sys2Proof.Machine
end

section
/-! SUPPORT. The traversal as a walk through the ids of a bus (41_search.md R86, R87, R95): what is so of ROM and LZ with the
positions before `p` decided, whichever way the directions come about. -/

namespace Sys2Proof.Machine

/-! ### Ids by their first difference -/

theorem sameBefore_zero (a b : Rom) : sameBefore a b 0 := fun _ _ hlt => absurd hlt (Nat.not_lt_zero _)

theorem sameBefore_one (a b : Rom) : sameBefore a b 1 := fun q h1 hlt => by omega

theorem sameBefore.symm {a b : Rom} {p : Nat} (h : sameBefore a b p) : sameBefore b a p :=
  fun q h1 hlt => (h q h1 hlt).symm

theorem sameBefore.trans {a b c : Rom} {p : Nat} (h : sameBefore a b p) (h' : sameBefore b c p) : sameBefore a c p :=
  fun q h1 hlt => (h q h1 hlt).trans (h' q h1 hlt)

theorem sameBefore.mono {a b : Rom} {p q : Nat} (h : sameBefore a b p) (hq : q ≤ p) : sameBefore a b q :=
  fun r h1 hlt => h r h1 (Nat.lt_of_lt_of_le hlt hq)

/-- One position more. -/
theorem sameBefore.succ {a b : Rom} {p : Nat} (h : sameBefore a b p) (hp : romBit a p = romBit b p) :
    sameBefore a b (p + 1) := by
  intro q h1 hlt
  rcases Nat.lt_or_eq_of_le (Nat.le_of_lt_succ hlt) with hq | rfl
  · exact h q h1 hq
  · exact hp

/-- Two ids agree before `n`, or differ first at some position before it. -/
theorem sameBefore_or_differ (a b : Rom) (n : Nat) :
    sameBefore a b n ∨ ∃ p, 1 ≤ p ∧ p < n ∧ sameBefore a b p ∧ romBit a p ≠ romBit b p := by
  induction n with
  | zero => exact .inl (sameBefore_zero a b)
  | succ n ih =>
    rcases ih with hsame | ⟨p, h1, hlt, hp⟩
    · rcases Nat.eq_zero_or_pos n with rfl | hn
      · exact .inl (sameBefore_one a b)
      · by_cases hbit : romBit a n = romBit b n
        · exact .inl (hsame.succ hbit)
        · exact .inr ⟨n, hn, Nat.lt_succ_self n, hsame, hbit⟩
    · exact .inr ⟨p, h1, Nat.lt_succ_of_lt hlt, hp⟩

/-- Two ids are equal, or differ first at some position (20_memory.md R42). -/
theorem rom_eq_or_differ (a b : Rom) :
    a = b ∨ ∃ p, 1 ≤ p ∧ p ≤ 64 ∧ sameBefore a b p ∧ romBit a p ≠ romBit b p :=
  (sameBefore_or_differ a b 65).imp rom_eq_of_sameBefore fun ⟨p, h1, hlt, hp⟩ => ⟨p, h1, Nat.le_of_lt_succ hlt, hp⟩

/-- A write at a position does not move the ids that agree up to it. -/
theorem sameBefore_setRomBit {rom r : Rom} {p q : Nat} (d : Bool) (hp : 1 ≤ p ∧ p ≤ 64) (hq : q ≤ p) :
    sameBefore (setRomBit rom p d) r q ↔ sameBefore rom r q := by
  refine forall_congr' fun n => imp_congr_right fun h1 => imp_congr_right fun hlt => ?_
  rw [romBit_setRomBit rom d hp ⟨h1, by omega⟩, if_neg (by omega)]

/-! ### The two sides of a position -/

/-- Some device on the path of `rom` has the bit `v` at position `p`. -/
def sideAt (devices : List Rom) (rom : Rom) (p : Nat) (v : Bool) : Prop :=
  ∃ d ∈ devices, sameBefore rom d p ∧ romBit d p = v

theorem branchAt_iff (devices : List Rom) (rom : Rom) (p : Nat) :
    branchAt devices rom p ↔ romBit rom p = false ∧ sideAt devices rom p true := Iff.rfl

theorem sideAt_setRomBit {devices : List Rom} {rom : Rom} {p q : Nat} (d v : Bool) (hp : 1 ≤ p ∧ p ≤ 64) (hq : q ≤ p) :
    sideAt devices (setRomBit rom p d) q v ↔ sideAt devices rom q v := by
  simp only [sideAt, sameBefore_setRomBit d hp hq]

theorem branchAt_setRomBit {devices : List Rom} {rom : Rom} {p q : Nat} (d : Bool) (hp : 1 ≤ p ∧ p ≤ 64) (h1 : 1 ≤ q)
    (hq : q < p) : branchAt devices (setRomBit rom p d) q ↔ branchAt devices rom q := by
  rw [branchAt_iff, branchAt_iff, sideAt_setRomBit d true hp hq.le, romBit_setRomBit rom d hp ⟨h1, by omega⟩,
    if_neg hq.ne]

theorem branchAt_setRomBit_same {devices : List Rom} {rom : Rom} {p : Nat} (d : Bool) (hp : 1 ≤ p ∧ p ≤ 64) :
    branchAt devices (setRomBit rom p d) p ↔ d = false ∧ sideAt devices rom p true := by
  rw [branchAt_iff, sideAt_setRomBit d true hp le_rfl, romBit_setRomBit rom d hp hp, if_pos rfl]

/-! ### The walk -/

/-- The direction of a pass begun from `x` at a discrepancy (41_search.md R86): ROM replayed before LD, 1 at LD, 0 past
it. -/
def SearchState.turn (x : SearchState) (p : Nat) : Bool :=
  if p < x.ld.toNat then romBit x.rom p else decide (p = x.ld.toNat)

/-- A pass begun from `x` has decided the positions before `p`, with ROM = `rom` and LZ = `lz`: some device is on the path,
the rest of ROM is not written yet, wherever devices left the path the direction was R86's, and LZ is the last position at
which they left it on the 1 side (41_search.md R86, R87). -/
structure Traversed (devices : List Rom) (x : SearchState) (rom : Rom) (lz p : Nat) : Prop where
  occupied : ∃ d ∈ devices, sameBefore rom d p
  unwritten : ∀ q : Nat, p ≤ q → q ≤ 64 → romBit rom q = romBit x.rom q
  turned : ∀ q : Nat, 1 ≤ q → q < p → sideAt devices rom q (!romBit rom q) → romBit rom q = x.turn q
  bound : ∀ q : Nat, 1 ≤ q → q < p → branchAt devices rom q → q ≤ lz
  last : lz ≠ 0 → lz < p ∧ branchAt devices rom lz

/-- Nothing is decided at the start of a pass. -/
theorem Traversed.start {devices : List Rom} (h : devices ≠ []) (x : SearchState) : Traversed devices x x.rom 0 1 where
  occupied := by
    obtain ⟨d, hd⟩ := List.exists_mem_of_ne_nil devices h
    exact ⟨d, hd, sameBefore_one _ _⟩
  unwritten := fun _ _ _ => rfl
  turned := fun q h1 hlt => by omega
  bound := fun q h1 hlt => by omega
  last := fun h0 => absurd rfl h0

/-- One position is decided: the direction `d` has a device on its side, is R86's if the other side has one too, and LZ
takes the position where that is the 1 side (41_search.md R86 to R88). -/
theorem Traversed.next {devices : List Rom} {x : SearchState} {rom : Rom} {lz lz' p : Nat} {d : Bool}
    (h : Traversed devices x rom lz p) (hp : 1 ≤ p ∧ p ≤ 64) (hside : sideAt devices rom p d)
    (hturn : sideAt devices rom p (!d) → d = x.turn p)
    (hlz : d = false ∧ sideAt devices rom p true ∧ lz' = p ∨ ¬(d = false ∧ sideAt devices rom p true) ∧ lz' = lz) :
    Traversed devices x (setRomBit rom p d) lz' (p + 1) where
  occupied := by
    obtain ⟨r, hr, hsame, hbit⟩ := hside
    refine ⟨r, hr, ((sameBefore_setRomBit d hp le_rfl).mpr hsame).succ ?_⟩
    rw [romBit_setRomBit rom d hp hp, if_pos rfl, hbit]
  unwritten := fun q hq hq' => by
    rw [romBit_setRomBit rom d hp ⟨by omega, hq'⟩, if_neg (by omega)]
    exact h.unwritten q (by omega) hq'
  turned := fun q h1 hlt => by
    rw [sideAt_setRomBit d _ hp (by omega), romBit_setRomBit rom d hp ⟨h1, by omega⟩]
    rcases Nat.lt_or_eq_of_le (Nat.le_of_lt_succ hlt) with hq | rfl
    · rw [if_neg hq.ne]
      exact h.turned q h1 hq
    · rw [if_pos rfl]
      exact hturn
  bound := fun q h1 hlt hbranch => by
    rcases Nat.lt_or_eq_of_le (Nat.le_of_lt_succ hlt) with hq | rfl
    · have hle := h.bound q h1 hq ((branchAt_setRomBit d hp h1 hq).mp hbranch)
      omega
    · have hnew := (branchAt_setRomBit_same d hp).mp hbranch
      rcases hlz with ⟨-, -, rfl⟩ | ⟨hnot, -⟩
      · exact le_rfl
      · exact absurd hnew hnot
  last := fun h0 => by
    rcases hlz with ⟨hd, hone, rfl⟩ | ⟨-, rfl⟩
    · exact ⟨Nat.lt_succ_self _, (branchAt_setRomBit_same d hp).mpr ⟨hd, hone⟩⟩
    · obtain ⟨hlt, hbranch⟩ := h.last h0
      exact ⟨Nat.lt_succ_of_lt hlt, (branchAt_setRomBit d hp (Nat.pos_of_ne_zero h0) hlt).mpr hbranch⟩

/-- With all 64 positions decided ROM is the id of a device (41_search.md R95). -/
theorem Traversed.mem {devices : List Rom} {x : SearchState} {rom : Rom} {lz : Nat}
    (h : Traversed devices x rom lz 65) : rom ∈ devices := by
  obtain ⟨d, hd, hsame⟩ := h.occupied
  rwa [rom_eq_of_sameBefore hsame]

/-- If the id of `x` is a device's, a pass begun from `x` replays it before LD (41_search.md R86). -/
theorem Traversed.replays {devices : List Rom} {x : SearchState} {rom : Rom} {lz p : Nat}
    (h : Traversed devices x rom lz p) (hx : x.rom ∈ devices) (hp : x.ld.toNat ≤ p) :
    sameBefore rom x.rom x.ld.toNat := by
  rcases sameBefore_or_differ rom x.rom x.ld.toNat with hsame | ⟨q, h1, hlt, hsame, hne⟩
  · exact hsame
  · have hside : sideAt devices rom q (!romBit rom q) := ⟨x.rom, hx, hsame, Bool.eq_not_iff.mpr hne.symm⟩
    have hturn := h.turned q h1 (by omega) hside
    rw [SearchState.turn, if_pos hlt] at hturn
    exact absurd hturn hne

/-- Past LD a device that leaves the path leaves it on the 1 side, and so comes later in order (41_search.md R86, R95). -/
theorem Traversed.before_of_differ {devices : List Rom} {x : SearchState} {rom r : Rom} {lz q : Nat}
    (h : Traversed devices x rom lz 65) (hr : r ∈ devices) (hq : x.ld.toNat < q) (h64 : q ≤ 64)
    (hsame : sameBefore rom r q) (hne : romBit rom q ≠ romBit r q) : romBefore rom r := by
  have hside : sideAt devices rom q (!romBit rom q) := ⟨r, hr, hsame, Bool.eq_not_iff.mpr hne.symm⟩
  have hzero : romBit rom q = false := by
    rw [h.turned q (by omega) (by omega) hside, SearchState.turn, if_neg (by omega), decide_eq_false (by omega)]
  exact ⟨q, by omega, h64, hsame, hzero, by simpa [hzero] using hne⟩

end Sys2Proof.Machine
end

section
/-! SUPPORT. A pass on the wired-AND bus (log entry 17), one request at a time: the devices still active are those on the path
of ROM, and the direction taken keeps one of them. -/

namespace Sys2Proof.Machine

/-! ### The bus at a bit position -/

/-- The bus is at position `p`, its active devices those on the path of `rom`; `read` says that the first read of the
position has been answered. -/
structure Bus.At (b : Bus) (devices : List Rom) (rom : Rom) (p : Nat) (read : Bool) : Prop where
  deviceList : b.devices = devices
  position : b.position = p
  firstRead : b.firstRead = read
  active : ∀ r : Rom, r ∈ b.active ↔ r ∈ devices ∧ sameBefore rom r p

/-- The first read answers 0 where an active device has a 0. -/
theorem Bus.At.idBit_eq_false_iff {b : Bus} {devices : List Rom} {rom : Rom} {p : Nat} {read : Bool}
    (h : b.At devices rom p read) : b.idBit = false ↔ sideAt devices rom p false := by
  simp [Bus.idBit, sideAt, h.active, h.position, and_assoc]

/-- The second read answers 0 where an active device has a 1. -/
theorem Bus.At.cmpBit_eq_false_iff {b : Bus} {devices : List Rom} {rom : Rom} {p : Nat} {read : Bool}
    (h : b.At devices rom p read) : b.cmpBit = false ↔ sideAt devices rom p true := by
  simp [Bus.cmpBit, sideAt, h.active, h.position, and_assoc]

/-- A RESET_BUS brings all devices to position 1. -/
theorem Bus.at_resetBus (b : Bus) (rom : Rom) : (b.answer .phyResetBus).2.At b.devices rom 1 false :=
  ⟨rfl, rfl, rfl, fun r => by simp [Bus.answer, sameBefore_one]⟩

/-- A WRITE_BIT leaves the devices with that bit, at the next position. -/
theorem Bus.At.writeBit {b : Bus} {devices : List Rom} {rom : Rom} {p : Nat} {read : Bool}
    (h : b.At devices rom p read) (hp : 1 ≤ p) :
    (b.answer (.phyWriteBit (romBit rom p))).2.At devices rom (p + 1) false := by
  refine ⟨h.deviceList, congrArg (· + 1) h.position, rfl, fun r => ?_⟩
  have hsucc : sameBefore rom r (p + 1) ↔ sameBefore rom r p ∧ romBit r p = romBit rom p :=
    ⟨fun hs => ⟨hs.mono (Nat.le_succ p), (hs p hp (Nat.lt_succ_self p)).symm⟩, fun ⟨hs, hbit⟩ => hs.succ hbit.symm⟩
  simp [Bus.answer, h.active, h.position, hsucc, and_assoc]

/-! ### The answers as the block sees them -/

/-- The edge at which the levels `i` are on the ports. -/
def State.edgeWith (s : State) (i : Inputs) : State := State.beginEdge { s with inputs := i }

/-- The levels are no part of the invariant. -/
theorem State.Inv.edgeWith {s : State} (h : s.Inv) (i : Inputs) : (s.edgeWith i).Inv :=
  ⟨h.range, h.savedLd, h.savedLfd, h.start, h.position, h.request, h.stored, h.notExhausted⟩

/-- The edge at which the bus's answer `bit` is on the PHY port. -/
def State.answered (s : State) (bit : Bool) : State := s.edgeWith (answerInputs bit)

theorem answerInputs_eq (bit : Bool) : answerInputs bit = { Inputs.quiet with phyRspValid := true, phyBit := bit } := by
  cases bit <;> rfl

theorem State.answered_phyBit (s : State) (bit : Bool) : (s.answered bit).inputs.phyBit = bit :=
  congrArg Inputs.phyBit (answerInputs_eq bit)

theorem State.answered_rst (s : State) (bit : Bool) : (s.answered bit).inputs.rst = false :=
  congrArg Inputs.rst (answerInputs_eq bit)

/-- The bus answers every request, with ERR = 0. -/
theorem State.responded_answered {s : State} {f : Fsm} (h : s.fsm = f) (bit : Bool) :
    (s.answered bit).Responded f false :=
  ⟨h, congrArg Inputs.phyRspValid (answerInputs_eq bit), congrArg Inputs.phyErr (answerInputs_eq bit)⟩

theorem State.Inv.answered {s : State} (h : s.Inv) (bit : Bool) : (s.answered bit).Inv := h.edgeWith _

/-- The request FSM waits for (10_state.md R26, 30_encoding.md R67). -/
def State.awaitedRequest (s : State) : Instr :=
  match s.fsm with
  | .rstWait => .phyResetBus
  | .cmdWait => .phyWriteByte 0xF0
  | .dirWait => .phyWriteBit s.pass.dir
  | _ => .phyReadBit

/-- The request on PHY_REQ is the one FSM waits for (10_state.md R34). -/
theorem State.Inv.decode_phyReq {s : State} (h : s.Inv) (hw : s.fsm.waiting = true) :
    decode (.request s.phyReq) = .ok s.awaitedRequest := by
  obtain ⟨hreset, hbyte, hread, hbit⟩ := decode_awaited
  unfold State.awaitedRequest
  cases hf : s.fsm with
  | idle | bad6 | bad7 => rw [hf] at hw; cases hw
  | rstWait =>
    rw [h.request _ (by rw [State.awaited, hf])]
    exact hreset
  | cmdWait =>
    rw [h.request _ (by rw [State.awaited, hf])]
    exact hbyte
  | idWait | cmpWait =>
    rw [h.request _ (by rw [State.awaited, hf])]
    exact hread
  | dirWait =>
    rw [h.request _ (by rw [State.awaited, hf])]
    exact hbit _

end Sys2Proof.Machine
end

section
/-! SUPPORT. A pass run on the wired-AND bus (log entry 17): each request answered by the bus, 194 in all, takes the pass from
RESET_BUS to the evaluation with ROM the id of a device (41_search.md R94, R95). -/

namespace Sys2Proof.Machine

/-! ### One request -/

/-- The bus's answer to the outstanding request runs the branch of the edge that takes it. -/
theorem busStep_of_edgeTo {b b' : Bus} {s u : State} {bit : Bool} (h : s.Inv) (hw : s.fsm.waiting = true)
    (ha : b.answer s.awaitedRequest = (bit, b')) (he : EdgeTo (s.answered bit) u) : busStep b s = (.next u, b') := by
  unfold busStep
  rw [h.decode_phyReq hw]
  simp only [ha]
  exact congrArg (·, b') (he.edge_eq (h.answered bit) (s.answered_rst bit))

theorem runOnBus_succ {b b' : Bus} {s t : State} (n : Nat) (hw : s.fsm.waiting = true)
    (h : busStep b s = (.next t, b')) : runOnBus (n + 1) b s = runOnBus n b' t := by
  rw [runOnBus, if_neg (Fsm.ne_idle_of_waiting hw), h]

theorem runOnBus_idle (n : Nat) (b : Bus) {s : State} (h : s.fsm = .idle) : runOnBus n b s = (.next s, b) := by
  cases n with
  | zero => rfl
  | succ n => rw [runOnBus, if_pos h]

/-! ### The pass at a bit position -/

/-- A pass begun from `c` has the positions before `p` decided by the devices, and CRC fed the bytes completed. -/
structure State.Walks (s : State) (devices : List Rom) (c : State) (p : Nat) : Prop where
  same : c.SamePass s
  path : Traversed devices c.search s.search.rom s.pass.lz.toNat p
  fed : s.pass.Fed s.crc8Table s.search.rom

/-- A pass waits in `f` for the bus, both at position `n`. -/
structure State.OnBus (devices : List Rom) (b : Bus) (s : State) (f : Fsm) (n : Nat) : Prop where
  inv : s.Inv
  fsm : s.fsm = f
  position : s.pass.p.toNat = n
  bus : b.At devices s.search.rom n (decide (f = .cmpWait))

theorem State.OnBus.waiting {devices : List Rom} {b : Bus} {s : State} {f : Fsm} {n : Nat}
    (h : s.OnBus devices b f n) (hf : f.waiting = true) : s.fsm.waiting = true := by
  rw [h.fsm]; exact hf

/-- The direction chosen is the bit read where the two reads differ, and else R86's of the pass's start (41_search.md
R86). -/
theorem State.Walks.chooseDirection_eq {devices : List Rom} {c s : State} {n : Nat} (h : s.Walks devices c n)
    (hn : s.pass.p.toNat = n) (h64 : n ≤ 64) :
    s.chooseDirection = if s.pass.idb ≠ s.pass.cmpb then s.pass.idb else c.search.turn n := by
  have hrom : romBit s.search.rom n = romBit c.search.rom n := h.path.unwritten n le_rfl h64
  rw [s.chooseDirection_eq, hn, h.same.ld, hrom, SearchState.turn]
  simp

/-- What two reads of the sides of a position say of the direction `d` they lead to: its side has a device, and if both have
one it is the turn `v`; a 0 chosen where the other side has a device is the 0 of a discrepancy (41_search.md R86, R87). -/
theorem sides_of_reads {side : Bool → Prop} {idb cmpb d v : Bool} (hid : idb = false ↔ side false)
    (hcmp : cmpb = false ↔ side true) (hsome : (idb && cmpb) = false) (hd : d = if idb ≠ cmpb then idb else v) :
    side d ∧ (side (!d) → d = v) ∧ ((idb = false ∧ cmpb = false ∧ d = false) ↔ d = false ∧ side true) := by
  rw [← hcmp]
  cases idb with
  | true =>
    obtain rfl : cmpb = false := hsome
    obtain rfl : d = true := hd
    exact ⟨hcmp.mp rfl, fun h => (nomatch hid.mpr h), by decide⟩
  | false =>
    cases cmpb with
    | true =>
      obtain rfl : d = false := hd
      exact ⟨hid.mp rfl, fun h => (nomatch hcmp.mpr h), by decide⟩
    | false =>
      obtain rfl : d = v := hd
      refine ⟨?_, fun _ => rfl, by simp⟩
      cases d
      · exact hid.mp rfl
      · exact hcmp.mp rfl

/-- The write of position `n` does not move the active devices. -/
theorem Bus.At.setRomBit {b : Bus} {devices : List Rom} {rom : Rom} {n : Nat} {read : Bool}
    (h : b.At devices rom n read) (d : Bool) (hn : 1 ≤ n ∧ n ≤ 64) : b.At devices (setRomBit rom n d) n read :=
  ⟨h.deviceList, h.position, h.firstRead, fun r => by rw [h.active, sameBefore_setRomBit d hn le_rfl]⟩

/-- On the path of ROM some device is active, so the two reads are not both 1. -/
theorem Bus.At.reads_not_both {b : Bus} {devices : List Rom} {rom : Rom} {n : Nat} {read : Bool}
    (h : b.At devices rom n read) (hd : ∃ d ∈ devices, sameBefore rom d n) : (b.idBit && b.cmpBit) = false := by
  obtain ⟨d, hd, hsame⟩ := hd
  rw [Bool.and_eq_false_iff, h.idBit_eq_false_iff, h.cmpBit_eq_false_iff]
  cases hbit : romBit d n
  · exact .inl ⟨d, hd, hsame, hbit⟩
  · exact .inr ⟨d, hd, hsame, hbit⟩

/-- The first read of a position. -/
theorem State.OnBus.busStep_idWait {devices : List Rom} {b : Bus} {c s : State} {n : Nat}
    (h : s.OnBus devices b .idWait n) (hw : s.Walks devices c n) :
    ∃ t b', busStep b s = (.next t, b') ∧ t.OnBus devices b' .cmpWait n ∧ t.Walks devices c n ∧
      t.pass.idb = b'.idBit := by
  have hwait : s.fsm.waiting = true := h.waiting rfl
  obtain ⟨hinv, hf, hn, hdev, hpos, hread, hactive⟩ := h
  have ha : b.answer s.awaitedRequest = (b.idBit, { b with firstRead := true }) := by
    rw [State.awaitedRequest, hf]
    exact if_neg (by rw [hread]; nofun)
  have he := EdgeTo.idBit (State.responded_answered hf b.idBit)
  exact ⟨_, _, busStep_of_edgeTo hinv hwait ha he,
    ⟨he.inv (hinv.answered _), rfl, hn, ⟨hdev, hpos, rfl, hactive⟩⟩,
    ⟨hw.same.trans ⟨rfl, rfl, rfl, rfl, rfl, rfl⟩, hw.path, hw.fed⟩, s.answered_phyBit b.idBit⟩

/-- The direction chosen from the two reads decides one position more (41_search.md R86 to R88). -/
theorem State.Walks.directed {devices : List Rom} {b : Bus} {c r : State} {n : Nat} {read : Bool}
    (h : r.Walks devices c n) (hat : b.At devices r.search.rom n read) (hid : r.pass.idb = b.idBit)
    (hcmp : r.pass.cmpb = b.cmpBit) (hp : r.pass.positioned) (hn : r.pass.p.toNat = n) :
    ((r.recordDiscrepancy r.chooseDirection).directed r.chooseDirection).Walks devices c (n + 1) := by
  have hbound : 1 ≤ n ∧ n ≤ 64 := hn ▸ hp.p_bounds
  obtain ⟨hside, hturn, hzero⟩ := sides_of_reads (side := sideAt devices r.search.rom n)
    (by rw [hid, hat.idBit_eq_false_iff]) (by rw [hcmp, hat.cmpBit_eq_false_iff])
    (by rw [hid, hcmp]; exact hat.reads_not_both h.path.occupied) (h.chooseDirection_eq hn hbound.2)
  refine ⟨h.same.trans ⟨rfl, rfl, rfl, rfl, rfl, rfl⟩, ?_, h.fed.setRomBit hp _⟩
  have hrom : ((r.recordDiscrepancy r.chooseDirection).directed r.chooseDirection).search.rom =
      setRomBit r.search.rom n r.chooseDirection := by rw [← hn]; rfl
  rw [hrom]
  refine h.path.next hbound hside hturn ?_
  have hlz : ((r.recordDiscrepancy r.chooseDirection).directed r.chooseDirection).pass.lz =
      if r.pass.zeroBranch r.chooseDirection then r.pass.p else r.pass.lz := rfl
  have hiff := (r.pass.zeroBranch_iff r.chooseDirection).trans hzero
  rw [hlz]
  by_cases hz : r.pass.zeroBranch r.chooseDirection = true
  · obtain ⟨hd, hone⟩ := hiff.mp hz
    exact .inl ⟨hd, hone, by rw [if_pos hz, hn]⟩
  · exact .inr ⟨mt hiff.mpr hz, by rw [if_neg hz]⟩

/-- The bus's second answer at a position taken into CMPB (41_search.md R85). -/
def State.compared (s : State) (bit : Bool) : State := (s.answered bit).withCmpb (s.answered bit).inputs.phyBit

/-- The second read of a position: the direction is chosen, and ROM and LZ have one position more decided. -/
theorem State.OnBus.busStep_cmpWait {devices : List Rom} {b : Bus} {c s : State} {n : Nat}
    (h : s.OnBus devices b .cmpWait n) (hw : s.Walks devices c n) (hid : s.pass.idb = b.idBit) :
    ∃ t b', busStep b s = (.next t, b') ∧ t.OnBus devices b' .dirWait n ∧ t.Walks devices c (n + 1) := by
  have hwait : s.fsm.waiting = true := h.waiting rfl
  obtain ⟨hinv, hf, rfl, hat⟩ := h
  have hp : s.pass.positioned := hinv.position (by rw [hf]; rfl)
  have ha : b.answer s.awaitedRequest = (b.cmpBit, { b with firstRead := false }) := by
    rw [State.awaitedRequest, hf]
    exact if_pos hat.firstRead
  have hcmp : (s.compared b.cmpBit).pass.cmpb = b.cmpBit := s.answered_phyBit b.cmpBit
  have hsome : (s.pass.idb && (s.answered b.cmpBit).inputs.phyBit) = false := by
    rw [s.answered_phyBit, hid]
    exact hat.reads_not_both hw.path.occupied
  have he := EdgeTo.direction (State.responded_answered hf b.cmpBit) hsome (c := s.compared b.cmpBit) rfl
  have hwalks : (s.compared b.cmpBit).Walks devices c s.pass.p.toNat :=
    ⟨hw.same.trans ⟨rfl, rfl, rfl, rfl, rfl, rfl⟩, hw.path, hw.fed⟩
  obtain ⟨hdev, hpos, -, hactive⟩ := hat.setRomBit (s.compared b.cmpBit).chooseDirection hp.p_bounds
  exact ⟨_, _, busStep_of_edgeTo hinv hwait ha he,
    ⟨he.inv (hinv.answered _), rfl, rfl, ⟨hdev, hpos, rfl, hactive⟩⟩, hwalks.directed hat hid hcmp hp rfl⟩

/-- The write of the direction inside the id: on to the next position (41_search.md R89). -/
theorem State.OnBus.busStep_dirWait {devices : List Rom} {b : Bus} {c s : State} {n : Nat}
    (h : s.OnBus devices b .dirWait n) (hw : s.Walks devices c (n + 1)) :
    ∃ b', b'.devices = devices ∧
      ((n < 64 ∧ ∃ t, busStep b s = (.next t, b') ∧ t.OnBus devices b' .idWait (n + 1) ∧ t.Walks devices c (n + 1)) ∨
        (n = 64 ∧ ∃ e : State, busStep b s = (.next e.evaluate, b') ∧ e.Walks devices c 65 ∧ e.pass.byte = 8#4)) := by
  have hwait : s.fsm.waiting = true := h.waiting rfl
  obtain ⟨hinv, hf, hn, hat⟩ := h
  have hp : s.pass.positioned := hinv.position (by rw [hf]; rfl)
  obtain ⟨q, hq, hlz, hqp, -⟩ := hp.advance s.crc8Table s.search.rom
  have hbound := hp.p_bounds
  have hat' := hat.writeBit (hn ▸ hbound.1)
  have hreq : s.awaitedRequest = .phyWriteBit (romBit s.search.rom n) := by
    rw [State.awaitedRequest, hf, ← hn, hinv.stored hf]
  have hr := State.responded_answered hf false
  have ha : b.answer s.awaitedRequest = (false, (b.answer (.phyWriteBit (romBit s.search.rom n))).2) := by
    rw [hreq]
    rfl
  have hwalks : State.Walks { s.answered false with pass := q } devices c (n + 1) := by
    refine ⟨hw.same.trans ⟨rfl, rfl, rfl, rfl, rfl, rfl⟩, ?_, hw.fed.advance hp hq⟩
    change Traversed devices c.search s.search.rom q.lz.toNat (n + 1)
    rw [hlz]
    exact hw.path
  refine ⟨_, hat'.deviceList, ?_⟩
  by_cases hlast : s.pass.p.toNat = 64
  · have h64 : n = 64 := hn.symm.trans hlast
    have hbyte := (hp.byte_eq_eight_iff hq).mpr hlast
    subst h64
    exact .inr ⟨rfl, _, busStep_of_edgeTo hinv hwait ha (.lastPosition hr hq hbyte), hwalks, hbyte⟩
  · have he := EdgeTo.nextPosition hr hq (mt (hp.byte_eq_eight_iff hq).mp hlast)
    have hnext : q.p.toNat = n + 1 := hqp.trans (by rw [hn])
    refine .inl ⟨by omega, _, busStep_of_edgeTo hinv hwait ha he, ⟨he.inv (hinv.answered _), rfl, hnext, hat'⟩,
      ⟨hwalks.same.trans ⟨rfl, rfl, rfl, rfl, rfl, rfl⟩, hwalks.path, hwalks.fed⟩⟩

/-! ### The whole pass -/

/-- The two reads of a position, as part of a run. -/
theorem State.OnBus.run_reads {devices : List Rom} {b : Bus} {c s : State} {n : Nat}
    (h : s.OnBus devices b .idWait n) (hw : s.Walks devices c n) :
    ∃ t b', (∀ m, runOnBus (m + 2) b s = runOnBus m b' t) ∧ t.OnBus devices b' .dirWait n ∧
      t.Walks devices c (n + 1) := by
  obtain ⟨t, b', hstep, ht, htw, hid⟩ := h.busStep_idWait hw
  obtain ⟨u, b'', hstep', hu, huw⟩ := ht.busStep_cmpWait htw hid
  have hrun (m : Nat) : runOnBus (m + 2) b s = runOnBus m b'' u :=
    (runOnBus_succ (m + 1) (h.waiting rfl) hstep).trans (runOnBus_succ m (ht.waiting rfl) hstep')
  exact ⟨u, b'', hrun, hu, huw⟩

/-- `r` is the end of a pass begun from `c`: the bus has all its devices still, and the pass is evaluated with all 64
positions decided and all eight bytes fed. -/
def WalksToEnd (devices : List Rom) (c : State) (r : Result × Bus) : Prop :=
  ∃ (e : State) (b' : Bus),
    r = (.next e.evaluate, b') ∧ b'.devices = devices ∧ e.Walks devices c 65 ∧ e.pass.byte = 8#4

/-- The three requests of each position left take the pass to its evaluation (41_search.md R93, R94). -/
theorem State.OnBus.walksToEnd {devices : List Rom} {b : Bus} {c s : State} {n k : Nat}
    (h : s.OnBus devices b .idWait n) (hw : s.Walks devices c n) (hk : n + k = 64) :
    WalksToEnd devices c (runOnBus (3 * k + 3) b s) := by
  induction k generalizing n b s with
  | zero =>
    obtain ⟨t, b', hrun, ht, htw⟩ := h.run_reads hw
    obtain ⟨b'', hdev, ⟨hlt, -⟩ | ⟨-, e, hstep, he, hbyte⟩⟩ := ht.busStep_dirWait htw
    · omega
    · exact ⟨e, b'', (hrun 1).trans (runOnBus_succ 0 (ht.waiting rfl) hstep), hdev, he, hbyte⟩
  | succ k ih =>
    obtain ⟨t, b', hrun, ht, htw⟩ := h.run_reads hw
    obtain ⟨b'', hdev, ⟨-, u, hstep, hu, huw⟩ | ⟨h64, -⟩⟩ := ht.busStep_dirWait htw
    · have hnext : runOnBus (3 * (k + 1) + 3) b s = runOnBus (3 * k + 3) b'' u :=
        (hrun (3 * k + 4)).trans (runOnBus_succ (3 * k + 3) (ht.waiting rfl) hstep)
      rw [hnext]
      exact ih hu huw (by omega)
    · omega

/-- With a device on the bus RESET_BUS is answered by a presence, and position 1 is undecided (41_search.md R82). -/
theorem State.Inv.busStep_rstWait {b : Bus} {c : State} (h : c.Inv) (hcrc : c.CrcInStep) (hf : c.fsm = .rstWait)
    (hlz : c.pass.lz = 0) (hne : b.devices ≠ []) :
    ∃ t b', busStep b c = (.next t, b') ∧ t.OnBus b.devices b' .cmdWait 1 ∧ t.Walks b.devices c 1 := by
  have hwait : c.fsm.waiting = true := by rw [hf]; rfl
  have ha : b.answer c.awaitedRequest = (true, (b.answer .phyResetBus).2) := by
    rw [State.awaitedRequest, hf]
    simp [Bus.answer, hne]
  have hpos : c.pass.p.toNat = 1 := by
    rw [(h.start (.inl hf)).1]
    rfl
  have hpath : Traversed b.devices c.search c.search.rom c.pass.lz.toNat 1 := by
    rw [hlz]
    exact Traversed.start hne c.search
  have he := EdgeTo.presence (State.responded_answered hf true) (c.answered_phyBit true)
  exact ⟨_, _, busStep_of_edgeTo h hwait ha he, ⟨he.inv (h.answered true), rfl, hpos, b.at_resetBus _⟩,
    ⟨⟨rfl, rfl, rfl, rfl, rfl, rfl⟩, hpath, hcrc hwait⟩⟩

/-- The command byte leaves block and bus where they are (41_search.md R83). -/
theorem State.OnBus.busStep_cmdWait {devices : List Rom} {b : Bus} {c s : State} {n : Nat}
    (h : s.OnBus devices b .cmdWait n) (hw : s.Walks devices c n) :
    ∃ t b', busStep b s = (.next t, b') ∧ t.OnBus devices b' .idWait n ∧ t.Walks devices c n := by
  have hwait : s.fsm.waiting = true := h.waiting rfl
  obtain ⟨hinv, hf, hn, hat⟩ := h
  have ha : b.answer s.awaitedRequest = (false, b) := by
    rw [State.awaitedRequest, hf]
    rfl
  have he := EdgeTo.commandByte (State.responded_answered hf false)
  exact ⟨_, _, busStep_of_edgeTo hinv hwait ha he, ⟨he.inv (hinv.answered false), rfl, hn, hat⟩,
    ⟨hw.same.trans ⟨rfl, rfl, rfl, rfl, rfl, rfl⟩, hw.path, hw.fed⟩⟩

/-- A pass on a bus with a device goes through all 64 positions, 194 requests in all (41_search.md R94). -/
theorem runOnBus_walksToEnd {b : Bus} {c : State} (h : c.Inv) (hcrc : c.CrcInStep) (hf : c.fsm = .rstWait)
    (hlz : c.pass.lz = 0) (hne : b.devices ≠ []) : WalksToEnd b.devices c (runOnBus 194 b c) := by
  have hwait : c.fsm.waiting = true := by rw [hf]; rfl
  obtain ⟨t, b', hstep, ht, htw⟩ := h.busStep_rstWait hcrc hf hlz hne
  obtain ⟨u, b'', hstep', hu, huw⟩ := ht.busStep_cmdWait htw
  rw [runOnBus_succ 193 hwait hstep, runOnBus_succ 192 (ht.waiting rfl) hstep']
  exact hu.walksToEnd (k := 63) huw rfl

/-- On an empty bus a pass fails at its first request (41_search.md R82). -/
theorem runOnBus_of_no_device {b : Bus} {c : State} (h : c.Inv) (hf : c.fsm = .rstWait) (hnil : b.devices = []) :
    ∃ b', runOnBus 194 b c = (.next ((c.answered false).fail .busResetFailure), b') := by
  have hwait : c.fsm.waiting = true := by rw [hf]; rfl
  have ha : b.answer c.awaitedRequest = (false, (b.answer .phyResetBus).2) := by
    rw [State.awaitedRequest, hf]
    simp [Bus.answer, hnil]
  have he := EdgeTo.noPresence (State.responded_answered hf false) (c.answered_phyBit false)
  have hstep := busStep_of_edgeTo h hwait ha he
  exact ⟨_, (runOnBus_succ 193 hwait hstep).trans (runOnBus_idle 193 _ (State.finish_fsm ..))⟩

/-- A pass that went through valid ids is found (41_search.md R90, R95). -/
theorem State.Walks.evaluate_eq {devices : List Rom} {c e : State} (h : e.Walks devices c 65)
    (hb : e.pass.byte = 8#4) (hvalid : ∀ r ∈ devices, validId c.crc8Table r) : e.evaluate = e.succeed := by
  obtain ⟨hcrc, hfam⟩ := hvalid _ h.path.mem
  rw [← h.same.table, ← h.fed.crc_of_byte_eq_eight hb] at hcrc
  rcases e.evaluate_cases with ⟨hne, -⟩ | ⟨-, h0, -⟩ | ⟨-, -, he⟩
  · exact absurd hcrc hne
  · exact absurd h0 hfam
  · exact he

end Sys2Proof.Machine
end

section
/-! SUPPORT. What a pass on the wired-AND bus finds (log entry 17): the next id in order after LD's id (41_search.md R95,
42_session.md R105), and VERIFY's own id if it is there (42_session.md R102). -/

namespace Sys2Proof.Machine

/-! ### The next id in order -/

/-- At LD, where a device leaves the path of the id before on the 1 side, the pass takes 1 (41_search.md R86). -/
theorem Traversed.one_at_ld {devices : List Rom} {x : SearchState} {rom : Rom} {lz : Nat}
    (h : Traversed devices x rom lz 65) (hx : x.rom ∈ devices) (h1 : 1 ≤ x.ld.toNat) (h64 : x.ld.toNat ≤ 64)
    (hb : branchAt devices x.rom x.ld.toNat) : romBit rom x.ld.toNat = true := by
  have hsame : sameBefore rom x.rom x.ld.toNat := h.replays hx (by omega)
  obtain ⟨hzero, d, hd, hdsame, hone⟩ := hb
  have hside : sideAt devices rom x.ld.toNat (!romBit rom x.ld.toNat) := by
    cases romBit rom x.ld.toNat
    · exact ⟨d, hd, hsame.trans hdsame, hone⟩
    · exact ⟨x.rom, hx, hsame, hzero⟩
  rw [h.turned x.ld.toNat h1 (by omega) hside, SearchState.turn, if_neg (lt_irrefl _), decide_eq_true rfl]

/-- From an id found with LD its last branch, a pass finds the next id in order (41_search.md R95). -/
theorem Traversed.finds_next {devices : List Rom} {x : SearchState} {rom : Rom} {lz : Nat}
    (h : Traversed devices x rom lz 65) (hx : x.rom ∈ devices) (h1 : 1 ≤ x.ld.toNat) (h64 : x.ld.toNat ≤ 64)
    (hbound : ∀ p : Nat, 1 ≤ p → p ≤ 64 → branchAt devices x.rom p → p ≤ x.ld.toNat)
    (hb : branchAt devices x.rom x.ld.toNat) :
    romBefore x.rom rom ∧ ∀ r ∈ devices, romBefore x.rom r → r = rom ∨ romBefore rom r := by
  have hsame : sameBefore rom x.rom x.ld.toNat := h.replays hx (by omega)
  have hone := h.one_at_ld hx h1 h64 hb
  refine ⟨⟨x.ld.toNat, h1, h64, hsame.symm, hb.1, hone⟩, fun r hr hlt => ?_⟩
  obtain ⟨p, hp1, hp64, hrsame, hpzero, hpone⟩ := hlt
  rcases Nat.lt_or_eq_of_le (hbound p hp1 hp64 ⟨hpzero, r, hr, hrsame, hpone⟩) with hp | rfl
  · have hrom : romBit rom p = false := (hsame p hp1 hp).trans hpzero
    exact .inr ⟨p, hp1, hp64, (hsame.mono hp.le).trans hrsame, hrom, hpone⟩
  · have hupto : sameBefore rom r (x.ld.toNat + 1) := (hsame.trans hrsame).succ (hone.trans hpone.symm)
    rcases rom_eq_or_differ rom r with heq | ⟨q, hq1, hq64, hqsame, hne⟩
    · exact .inl heq.symm
    · have hq : x.ld.toNat < q := by
        by_contra hle
        exact hne (hupto q hq1 (by omega))
      exact .inr (h.before_of_differ hr hq hq64 hqsame hne)

/-- An id with no branch of the devices is the last in order (41_search.md R95). -/
theorem last_of_no_branch {devices : List Rom} {rom : Rom}
    (h : ∀ p : Nat, 1 ≤ p → p ≤ 64 → ¬ branchAt devices rom p) :
    ∀ r ∈ devices, r = rom ∨ romBefore r rom := by
  intro r hr
  rcases rom_eq_or_differ r rom with heq | ⟨p, h1, h64, hsame, hne⟩
  · exact .inl heq
  · cases hbit : romBit rom p with
    | true => exact .inr ⟨p, h1, h64, hsame, by simpa [hbit] using hne, hbit⟩
    | false => exact absurd ⟨hbit, r, hr, hsame.symm, by simpa [hbit] using hne⟩ (h p h1 h64)

/-! ### The id verified -/

/-- Where 0 is the only index with entry 0, the last byte of an id with accumulator 0 is the CRC of the others (40_crc8.md
R76). -/
theorem last_byte_of_crc_zero {table : CrcTable} (h0 : zeroOnlyAtZero table) {rom : Rom}
    (h : crc8Run table 0 rom.toList = 0) : rom[7] = crc8Run table 0 (rom.toList.take 7) := by
  have hall : rom.toList.take (7 + 1) = rom.toList := List.take_of_length_le (by simp)
  rw [← hall, crc8Run_take_succ table 0 rom (by decide), crc8Step, h0] at h
  exact (BitVec.xor_eq_zero_iff.mp h).symm

/-- Two ids with accumulator 0 that agree before position 64 are equal: their first seven bytes are, and these give the
last (40_crc8.md R76). -/
theorem rom_eq_of_crc_zero {table : CrcTable} (h0 : zeroOnlyAtZero table) {a b : Rom} (hsame : sameBefore a b 64)
    (ha : crc8Run table 0 a.toList = 0) (hb : crc8Run table 0 b.toList = 0) : a = b := by
  have hbyte {i : Nat} (hi : i < 7) : a[i] = b[i] :=
    getElem_eq_of_romBit (by omega) fun q hq hq' => hsame q (by omega) (by omega)
  have hseven : a.toList.take 7 = b.toList.take 7 :=
    List.ext_getElem (by simp) fun i hi _ => by
      have hi7 : i < 7 := by simp at hi; omega
      simpa using hbyte hi7
  ext i hi : 1
  rcases Nat.lt_or_eq_of_le (Nat.le_of_lt_succ hi) with hlt | rfl
  · exact hbyte hlt
  · rw [last_byte_of_crc_zero h0 ha, last_byte_of_crc_zero h0 hb, hseven]

/-- With LD = 64 a pass through valid ids ends at the id it began from exactly where a device has it (42_session.md R102). -/
theorem Traversed.eq_iff_mem {devices : List Rom} {x : SearchState} {rom : Rom} {lz : Nat} {table : CrcTable}
    (h : Traversed devices x rom lz 65) (hld : x.ld = 64) (h0 : zeroOnlyAtZero table)
    (hvalid : ∀ r ∈ devices, validId table r) : rom = x.rom ↔ x.rom ∈ devices := by
  refine ⟨fun heq => heq ▸ h.mem, fun hx => ?_⟩
  have hnum : x.ld.toNat = 64 := by rw [hld]; rfl
  have hsame := h.replays hx (by omega)
  rw [hnum] at hsame
  exact rom_eq_of_crc_zero h0 hsame (hvalid _ h.mem).1 (hvalid _ hx).1

/-! ### The answers -/

/-- A found FIRST or NEXT moves the cursor to LZ (41_search.md R91). -/
theorem State.succeed_search {e : State} (hm : e.mode = .search) :
    e.succeed.rsp.found = true ∧
      e.succeed.search = { e.search with ld := e.pass.lz, ldf := ldfAfterSuccess e.search.ldf e.pass.lz } := by
  unfold State.succeed
  rw [State.finish_search _ _ (by exact hm)]
  exact ⟨rfl, rfl⟩

/-- A VERIFY that reached an id restores SearchState, and is found where the id is VROM's (41_search.md R92). -/
theorem State.succeed_verify {e : State} (hm : e.mode = .verify) :
    e.succeed.search = e.saved ∧ (e.succeed.rsp.found = true ↔ e.search.rom = e.vrom) := by
  unfold State.succeed
  rw [State.finish_verify _ _ (by exact hm)]
  exact ⟨rfl, by simp [Response.ofFound, verifyMatch]⟩

/-- A VERIFY that fails restores SearchState, and is not found (60_exceptions.md R131). -/
theorem State.fail_verify {s : State} (hm : s.mode = .verify) (l : Label) :
    (s.fail l).search = s.saved ∧ (s.fail l).rsp.found = false := by
  unfold State.fail
  rw [State.finish_verify _ _ (by exact hm)]
  exact ⟨rfl, rfl⟩

/-- A pass begun with LDF = 0 that went through the ids of a bus leaves the cursor of an enumeration (41_search.md R91). -/
theorem State.Walks.succeed_foundOn {devices : List Rom} {c e : State} (h : e.Walks devices c 65)
    (hm : c.mode = .search) (hl : c.search.ldf = false) : e.succeed.FoundOn devices := by
  obtain ⟨-, hsearch⟩ := e.succeed_search (h.same.mode.trans hm)
  have hldf : e.search.ldf = false := h.same.ldf.trans hl
  constructor <;> rw [hsearch]
  · exact h.path.mem
  · exact fun p h1 h64 => h.path.bound p h1 (by omega)
  · exact fun h0 => (h.path.last fun hz => h0 (BitVec.eq_of_toNat_eq hz)).2
  · simp [ldfAfterSuccess, hldf]

/-- After a found id that is not the last, LD is the position of its last branch (41_search.md R91). -/
theorem State.FoundOn.ld_pos {devices : List Rom} {s : State} (h : s.FoundOn devices) (hl : s.search.ldf = false) :
    1 ≤ s.search.ld.toNat ∧ branchAt devices s.search.rom s.search.ld.toNat := by
  have hld : s.search.ld ≠ 0 := fun h0 => by simp [h.last.mpr h0] at hl
  exact ⟨Nat.pos_of_ne_zero fun h0 => hld (BitVec.eq_of_toNat_eq h0), h.cursor hld⟩

/-- After the last id no device branches off (41_search.md R91). -/
theorem State.FoundOn.no_branch {devices : List Rom} {s : State} (h : s.FoundOn devices) (hl : s.search.ldf = true)
    {p : Nat} (h1 : 1 ≤ p) (h64 : p ≤ 64) : ¬ branchAt devices s.search.rom p := by
  intro hb
  have hle := h.bound p h1 h64 hb
  rw [h.last.mp hl] at hle
  exact absurd h1 (Nat.not_le_of_lt (Nat.lt_succ_of_le hle))

/-! ### A command on the bus -/

/-- The edge at which a command run on the bus is accepted: nothing else is presented. -/
def State.commanded (s : State) : State := s.edgeWith .quiet

theorem State.Inv.accepting_commanded {s : State} (h : s.Inv) (hi : s.fsm = .idle) : s.commanded.Accepting :=
  ⟨h.range, hi, rfl⟩

theorem State.Inv.inBounds_commanded {s : State} (h : s.Inv) : s.commanded.InBounds := (h.edgeWith .quiet).inBounds

theorem commandOnBus_of_next {i : Instr} {b : Bus} {s t : State} (h : exec i s.commanded = .next t) :
    commandOnBus i b s = runOnBus 194 b t := by
  have hexec : exec i (State.beginEdge { s with inputs := .quiet }) = .next t := h
  unfold commandOnBus
  rw [hexec]

/-- `c` is the start of a pass in mode `m` from the registers of `s` (41_search.md R80, R81). -/
structure State.BeginsPass (s : State) (m : Mode) (c : State) : Prop where
  inv : c.Inv
  crc : c.CrcInStep
  fsm : c.fsm = .rstWait
  lz : c.pass.lz = 0
  mode : c.mode = m
  search : c.search = s.search
  saved : c.saved = s.saved
  vrom : c.vrom = s.vrom
  table : c.crc8Table = s.crc8Table

theorem State.InBounds.beginsPass {s : State} (h : s.InBounds) (hl : s.search.ldf = false) (m : Mode) :
    s.BeginsPass m (s.beginSearch m) := by
  have hinv := h.beginSearch_inv m
  have hcrc := s.beginSearch_crcInStep m
  rw [State.beginSearch_of_ldf_false hl] at hinv hcrc ⊢
  exact ⟨hinv, hcrc, rfl, rfl, rfl, rfl, rfl, rfl, rfl⟩

/-- On a bus of valid ids a pass finds one of them (41_search.md R95). -/
theorem State.BeginsPass.finds {s c : State} {m : Mode} {b : Bus} (h : s.BeginsPass m c) (hne : b.devices ≠ [])
    (hvalid : ∀ r ∈ b.devices, validId s.crc8Table r) :
    ∃ e b', runOnBus 194 b c = (.next (State.succeed e), b') ∧ b'.devices = b.devices ∧ e.Walks b.devices c 65 := by
  obtain ⟨e, b', hrun, hdev, hw, hbyte⟩ := runOnBus_walksToEnd h.inv h.crc h.fsm h.lz hne
  rw [hw.evaluate_eq hbyte (by rw [h.table]; exact hvalid)] at hrun
  exact ⟨e, b', hrun, hdev, hw⟩

end Sys2Proof.Machine
end

section
/-! The obligations on what the traversal computes on the wired-AND bus (log entry 17): NEXT and VERIFY. -/

namespace Sys2Proof.Machine

/-- Settles O58: with LDF = 0 the pass replays ROM's id before LD, takes 1 there and 0 after it; with LDF = 1 no device
branches off ROM's id, and NEXT answers at once. -/
theorem nextFindsNextId : Obligations.NextFindsNextId := by
  intro s b h hi hvalid hfound
  have hexec := exec_next (h.accepting_commanded hi)
  refine ⟨fun hl => ?_, fun hl => ?_⟩
  · have hc := h.inBounds_commanded.beginsPass hl .search
    obtain ⟨e, b', hrun, hdev, hw⟩ := hc.finds (List.ne_nil_of_mem hfound.member) hvalid
    obtain ⟨hf, hsearch⟩ := e.succeed_search (hw.same.mode.trans hc.mode)
    have hpath := hw.path
    rw [hc.search] at hpath
    obtain ⟨h1, hbranch⟩ := hfound.ld_pos hl
    have hnext := hpath.finds_next hfound.member h1 h.inBounds.search.ld hfound.bound hbranch
    refine ⟨e.succeed, b', (commandOnBus_of_next hexec).trans hrun, hdev, State.finish_fsm .., hf,
      hw.succeed_foundOn hc.mode (by rw [hc.search]; exact hl), ?_⟩
    rw [hsearch]
    exact hnext
  · rw [State.beginSearch_of_ldf_true (s := s.commanded) hl, State.finish_search _ _ rfl] at hexec
    exact ⟨last_of_no_branch fun p => hfound.no_branch hl, _,
      (commandOnBus_of_next hexec).trans (runOnBus_idle 194 b rfl), rfl, rfl, rfl, rfl⟩

/-- Settles O59: an empty bus answers no presence; on any other the pass ends at a device's id, which is VERIFY's exactly
where that is present. -/
theorem verifyAnswersPresence : Obligations.VerifyAnswersPresence := by
  intro s b rom h hi h0 hvalid
  obtain ⟨c, hexec, hc⟩ : ∃ c, exec (.verify rom) s.commanded = .next c ∧
      (s.commanded.verifySetup (unpackRom rom)).BeginsPass .verify c :=
    ⟨_, exec_verify (h.accepting_commanded hi) rom, (h.inBounds_commanded.verifySetup _).beginsPass rfl .verify⟩
  by_cases hnil : b.devices = []
  · obtain ⟨b', hrun⟩ := runOnBus_of_no_device hc.inv hc.fsm hnil
    obtain ⟨hsearch, hfound⟩ := State.fail_verify (s := c.answered false) hc.mode .busResetFailure
    exact ⟨_, b', (commandOnBus_of_next hexec).trans hrun, State.finish_fsm .., hsearch.trans hc.saved,
      by simp [hfound, hnil]⟩
  · obtain ⟨e, b', hrun, -, hw⟩ := hc.finds hnil hvalid
    obtain ⟨hsearch, hfound⟩ := e.succeed_verify (hw.same.mode.trans hc.mode)
    have hpath := hw.path
    rw [hc.search] at hpath
    refine ⟨e.succeed, b', (commandOnBus_of_next hexec).trans hrun, State.finish_fsm ..,
      hsearch.trans (hw.same.saved.trans hc.saved), ?_⟩
    rw [hfound, hw.same.vrom, hc.vrom]
    exact hpath.eq_iff_mem rfl h0 hvalid

end Sys2Proof.Machine
end

section
/-! SUPPORT. The outcome label of each response (60_exceptions.md R130, R134): how a pass ends, and what IDLE answers. -/

namespace Sys2Proof.Machine

/-- `t` has put out no response after `s` (10_state.md R30). -/
def State.Silent (s t : State) : Prop := ∀ (w : BitVec 16) (l : Label), t.trace ≠ .response w l :: s.trace

theorem State.Silent.of_trace_eq {s t : State} (h : t.trace = s.trace) : s.Silent t :=
  fun _ _ hw => List.cons_ne_self _ _ (hw.symm.trans h)

theorem State.Silent.of_request {s t : State} {q : BitVec 10} (h : t.trace = .request q :: s.trace) : s.Silent t :=
  fun _ _ hw => nomatch h.symm.trans hw

/-- `finish` puts out one response, with the label it is given (41_search.md R92). -/
theorem State.finish_trace (s : State) (found : Bool) (l : Label) :
    (s.finish found l).trace = .response (s.finish found l).rspWord l :: s.trace := by
  unfold State.finish
  split <;> rfl

/-! ### The end of a pass -/

/-- `t` is the pass of `s` ended with the label `l`, a failure's or NONE for an id found; of the registers that `finish`
leaves alone only the counters have moved (60_exceptions.md R131, 41_search.md R91). -/
inductive State.PassEnd (s : State) : Label → State → Prop where
  | failed {q : PassRegs} {l : Label} (hl : l.isFailure = true) : s.PassEnd l (State.fail { s with pass := q } l)
  | found {q : PassRegs} (hlz : q.lz = s.pass.lz) : s.PassEnd .none (State.succeed { s with pass := q })

/-- The evaluation fails for the CRC or for the family byte, or succeeds (41_search.md R90). -/
theorem State.PassEnd.evaluate {s : State} {q : PassRegs} (hlz : q.lz = s.pass.lz) :
    ∃ l, s.PassEnd l (State.evaluate { s with pass := q }) := by
  rcases State.evaluate_cases { s with pass := q } with ⟨-, he⟩ | ⟨-, -, he⟩ | ⟨-, -, he⟩ <;> rw [he]
  · exact ⟨_, .failed rfl⟩
  · exact ⟨_, .failed rfl⟩
  · exact ⟨_, .found hlz⟩

/-- An edge of a pass puts out no response and the pass goes on, or it ends the pass. -/
theorem EdgeTo.passEnd_cases {s t : State} (h : s.Inv) (hw : s.fsm.waiting = true) (he : EdgeTo s t) :
    (t.fsm.waiting = true ∧ s.Silent t) ∨ ∃ l, s.PassEnd l t := by
  have hidle {r : Except DecodeError Instr} (hp : s.Presented r) : False := Fsm.ne_idle_of_waiting hw hp.idle
  cases he with
  | quiet => exact .inl ⟨hw, .of_trace_eq rfl⟩
  | illegal hp | first hp | next hp | verify hp | targetSetup hp | familySkipSetup hp | crcStep hp =>
    exact (hidle hp).elim
  | phyError | noPresence => exact .inr ⟨_, .failed (q := s.pass) rfl⟩
  | violation => exact .inr ⟨_, .failed rfl⟩
  | presence | commandByte | idBit | nextPosition => exact .inl ⟨rfl, .of_request rfl⟩
  | direction _ _ hc =>
    subst hc
    exact .inl ⟨rfl, .of_request rfl⟩
  | lastPosition hp hq =>
    obtain ⟨q', hq', hlz, -⟩ := (hp.positioned h rfl).advance s.crc8Table s.search.rom
    cases hq'.symm.trans hq
    exact .inr (State.PassEnd.evaluate hlz)

theorem State.PassEnd.trace {s t : State} {l : Label} (h : s.PassEnd l t) :
    t.trace = .response t.rspWord l :: s.trace := by
  cases h <;> exact State.finish_trace ..

theorem State.PassEnd.label {s t : State} {l : Label} (h : s.PassEnd l t) : l = .none ∨ l.isFailure = true := by
  cases h with
  | failed hl => exact .inr hl
  | found => exact .inl rfl

/-- LDF after a success that found LDF = 0 (41_search.md R91). -/
theorem ldfAfterSuccess_false (lz : Position) : ldfAfterSuccess false lz = true ↔ lz = 0 := by
  simp [ldfAfterSuccess]

/-! ### The answers given in IDLE -/

/-- A word that the decoder rejects is answered in IDLE (60_exceptions.md R133). -/
theorem edge_of_illegal {s : State} {e : DecodeError} (hf : s.fsm = .idle) (hv : s.inputs.cmdValid = true)
    (hd : decode (.command s.inputs.cmd s.inputs.romIn) = .error e) : edge s = s.illegalCommand := by
  rw [edge_idle s hf, if_pos hv, hd]

/-- The label of a response given in IDLE, with the word presented that answers there (60_exceptions.md R134). -/
inductive State.IdleOutcome (s : State) : Label → Prop where
  | illegal {e : DecodeError} (h : s.Presented (.error e)) : s.IdleOutcome .illegalCommand
  | exhausted (h : s.Presented (.ok .next)) (hl : s.search.ldf = true) : s.IdleOutcome .exhausted
  | targetSetup {a : Byte} (h : s.Presented (.ok (.targetSetup a))) : s.IdleOutcome .none
  | familySkipSetup (h : s.Presented (.ok .familySkipSetup)) : s.IdleOutcome .none
  | crcStep {acc byte : Byte} (h : s.Presented (.ok (.crcStep acc byte))) : s.IdleOutcome .none

/-- A response put out with one label carries no other. -/
theorem label_eq_of_trace {tr tr' : List Event} {w w' : BitVec 16} {l l' : Label}
    (h : tr = .response w l :: tr') (h' : tr = .response w' l' :: tr') : l = l' := by
  cases h.symm.trans h'
  rfl

/-- An edge in IDLE that puts out a response was presented a word that answers there, and gives it its label: FIRST and
VERIFY leave LDF = 0, and so start a pass. -/
theorem EdgeTo.idleOutcome {s t : State} {w : BitVec 16} {l : Label} (hi : s.fsm = .idle) (he : EdgeTo s t)
    (ht : t.trace = .response w l :: s.trace) : s.IdleOutcome l := by
  have hbusy {f : Fsm} {err : Bool} (hp : s.Responded f err) (hf : f.waiting = true) : False :=
    Fsm.ne_idle_of_waiting (hp.waiting hf) hi
  cases he with
  | quiet => exact (State.Silent.of_trace_eq rfl w l ht).elim
  | illegal hp =>
    cases ht
    exact .illegal hp
  | targetSetup hp =>
    cases ht
    exact .targetSetup hp
  | familySkipSetup hp =>
    cases ht
    exact .familySkipSetup hp
  | crcStep hp =>
    cases ht
    exact .crcStep hp
  | first | verify =>
    rw [State.beginSearch_of_ldf_false rfl] at ht
    exact (State.Silent.of_request rfl w l ht).elim
  | next hp =>
    rcases s.beginSearch_cases .search with ⟨hldf, hs⟩ | ⟨-, hs⟩ <;> rw [hs] at ht
    · cases label_eq_of_trace (State.finish_trace ..) ht
      exact .exhausted hp hldf
    · exact (State.Silent.of_request rfl w l ht).elim
  | phyError hp hw => exact (hbusy hp hw).elim
  | noPresence hp | presence hp | commandByte hp | idBit hp | violation hp | direction hp | nextPosition hp
  | lastPosition hp => exact (hbusy hp rfl).elim

end Sys2Proof.Machine
end

section
/-! The obligations on the exceptions: illegal words, the failure procedure, and the outcome of each response. -/

namespace Sys2Proof.Machine

/-- Settles O38: each wait state looks at ERR first. -/
theorem errorComesFirst : Obligations.ErrorComesFirst := by
  rintro s i f h he (⟨rfl, rfl⟩ | ⟨⟨v, rfl⟩, rfl⟩ | ⟨rfl, rfl | rfl⟩ | ⟨⟨d, rfl⟩, rfl⟩)
  · rw [exec_phyResetBus h, he]
    rfl
  · rw [exec_phyWriteByte h, he]
    rfl
  · rw [exec_phyReadBit_idWait h, he]
    rfl
  · rw [exec_phyReadBit_cmpWait h, he]
    rfl
  · rw [exec_phyWriteBit h, he]
    rfl

/-- Settles O55: the step that leaves the wait states ends the pass, by the failure procedure or by a success, which finds
LDF = 0. -/
theorem failedPassLeavesInitial : Obligations.FailedPassLeavesInitial := by
  intro s t h hw hm hr hstep hidle
  obtain ⟨u, hs, he⟩ := h.step_of_no_rst hr
  cases hs.symm.trans hstep
  simp only [State.nextInputs_fsm, State.nextInputs_trace, State.nextInputs_search, State.nextInputs_rsp,
    State.nextInputs_rspWord] at hidle ⊢
  rcases he.passEnd_cases h.beginEdge hw with ⟨hwait, -⟩ | ⟨l, hend⟩
  · exact absurd hidle (Fsm.ne_idle_of_waiting hwait)
  · refine ⟨l, hend.trace, ?_⟩
    cases hend with
    | failed hl =>
      rw [State.fail, State.finish_search _ _ (by exact hm)]
      exact ⟨rfl, .inl ⟨rfl, hl, Response.word_ofFound false, rfl, rfl, rfl⟩⟩
    | @found q hlz =>
      have hldf : s.search.ldf = false := h.notExhausted hw
      have hlast : ldfAfterSuccess s.search.ldf q.lz = true ↔ s.pass.lz = 0 := by
        rw [hldf, hlz]
        exact ldfAfterSuccess_false _
      rw [State.succeed, State.finish_search _ _ (by exact hm)]
      exact ⟨rfl, .inr ⟨rfl, rfl, Response.word_ofFound true, hlz, rfl, hlast⟩⟩

/-- Settles O56: in a pass only its end answers, and in IDLE the word presented fixes the label. -/
theorem outcomesByCommand : Obligations.OutcomesByCommand := by
  intro s t w l h hr hstep ht
  obtain ⟨u, hs, he⟩ := h.step_of_no_rst hr
  cases hs.symm.trans hstep
  rw [State.nextInputs_trace] at ht
  refine ⟨fun hw => ?_, fun hi => ?_⟩
  · rcases he.passEnd_cases h.beginEdge hw with ⟨-, hsilent⟩ | ⟨l', hend⟩
    · exact absurd ht (hsilent w l)
    · cases label_eq_of_trace hend.trace ht
      exact hend.label
  · have hout : s.beginEdge.IdleOutcome l := he.idleOutcome hi ht
    have hdecoded {r : Except DecodeError Instr} (hp : s.beginEdge.Presented r) :
        decode (.command s.inputs.cmd s.inputs.romIn) = r := hp.decoded
    cases hout with
    | exhausted hp hl =>
      rw [hdecoded hp]
      exact ⟨hp.valid, rfl, hl⟩
    | illegal hp | targetSetup hp | familySkipSetup hp | crcStep hp =>
      rw [hdecoded hp]
      exact ⟨hp.valid, rfl⟩

/-- Settles O4: the decoder rejects the word, and the block accepts it. -/
theorem illegalWordOnlyAnswers : Obligations.IllegalWordOnlyAnswers := by
  intro s h hv hillegal
  have ⟨_, hidle, hr⟩ := h
  obtain ⟨e, he⟩ := decodeCommand_of_not_legal hillegal s.inputs.romIn
  have hready : s.beginEdge.Accepting := h
  rw [step_of_no_rst hr, edge_of_illegal (s := s.beginEdge) hidle hv he, State.illegalCommand,
    State.accept_of_accepting hready]
  rfl

/-- Settles O37: `finish` after `reset_to_initial`, with nothing found. -/
theorem failureProcedure : Obligations.FailureProcedure := by
  intro s cause
  obtain ⟨hsearch, hverify⟩ := finishAnswers s.resetToInitial false cause
  exact ⟨hsearch, fun hm => hverify hm false (by simp)⟩

end Sys2Proof.Machine
end

section
/-! The obligations on reset and the hazards: a command on a busy block, a response in IDLE, and the edge with RST = 1. -/

namespace Sys2Proof.Machine

/-- A response in IDLE is not taken, whatever states wait for it (70_reset_and_hazards.md R153). -/
theorem State.takeResponse_of_idle {s : State} {waits : List Fsm} {r : Result} (hr : s.inRange = true)
    (hi : s.fsm = .idle) : s.takeResponse waits r = .next s := by
  rw [State.takeResponse, State.guarded_of_inRange hr, if_pos hi, ite_self]

/-- Moving the input levels on changes the levels, the script and the draws alone (log entry 2). -/
theorem State.nextInputs_frame (s : State) :
    s.nextInputs =
      { s with inputs := s.nextInputs.inputs, script := s.nextInputs.script, draws := s.nextInputs.draws } := by
  unfold State.nextInputs
  split <;> rfl

/-- The registers after reset do not depend on the state before but for PHY_REQ (70_reset_and_hazards.md R151, R152). -/
theorem State.resetEdge_frame (s s' : State) :
    s'.resetEdge =
      { s.resetEdge with
        phyReq := s'.phyReq
        crc8Table := s'.crc8Table
        trace := s'.resetEdge.trace, inputs := s'.inputs, script := s'.script, draws := s'.draws } := rfl

/-- Settles O28: every command's meaning is an acceptance, and a busy block accepts none. -/
theorem commandWhileBusyIgnored : Obligations.CommandWhileBusyIgnored := by
  intro s i hc hr hbusy
  have hkept {r : Result} : s.accept r = .next s := State.accept_of_not_ready hr hbusy
  cases i with
  | first | next | verify | targetSetup | familySkipSetup | crcStep => exact hkept
  | phyResetBus | phyWriteBit | phyReadBit | phyWriteByte => cases hc

/-- Settles O39: every request's meaning takes a response, and an idle block takes none. -/
theorem responseInIdleIgnored : Obligations.ResponseInIdleIgnored := by
  intro s i hc hr hi
  have hkept {waits : List Fsm} {r : Result} : s.takeResponse waits r = .next s := State.takeResponse_of_idle hr hi
  cases i with
  | first | next | verify | targetSetup | familySkipSetup | crcStep => cases hc
  | phyResetBus | phyWriteBit | phyReadBit | phyWriteByte => exact hkept

/-- Settles O2: both steps reset the same registers, and the move of the inputs writes none. -/
theorem resetEdgeWinsOverAll : Obligations.ResetEdgeWinsOverAll := by
  intro s hr
  have hbusy : s.cmdReady = false := by simp [State.cmdReady, hr]
  refine ⟨hbusy, s.resetEdge.nextInputs, step_of_rst hr, State.nextInputs_trace _, State.nextInputs_phyReq _, ?_⟩
  intro s' t' hr' hstep
  obtain rfl : t' = s'.resetEdge.nextInputs := by simpa using hstep.symm.trans (step_of_rst hr')
  rw [s.resetEdge.nextInputs_frame, s'.resetEdge.nextInputs_frame, s.resetEdge_frame s']

end Sys2Proof.Machine
end

section
/-! SUPPORT. The id that a pass with LD = 0 finds on the wired-AND bus (log entry 17): the least in order (41_search.md
R95). -/

namespace Sys2Proof.Machine

/-- With LD = 0 a device that leaves the path leaves it on the 1 side, so a pass finds the least id (41_search.md R86,
R95). -/
theorem Traversed.finds_least {devices : List Rom} {x : SearchState} {rom : Rom} {lz : Nat}
    (h : Traversed devices x rom lz 65) (hld : x.ld = 0) : ∀ r ∈ devices, r = rom ∨ romBefore rom r := by
  intro r hr
  have hnum : x.ld.toNat = 0 := by rw [hld]; rfl
  rcases rom_eq_or_differ rom r with heq | ⟨q, h1, h64, hsame, hne⟩
  · exact .inl heq.symm
  · exact .inr (h.before_of_differ hr (by omega) h64 hsame hne)

end Sys2Proof.Machine
end

section
/-! The obligation on what the traversal computes on the wired-AND bus (log entry 17): FIRST. -/

namespace Sys2Proof.Machine

/-- Settles O57: FIRST begins its pass with LD = 0, and every device's id is valid. -/
theorem firstFindsLeastId : Obligations.FirstFindsLeastId := by
  intro s b h hi hne hvalid
  obtain ⟨c, hexec, hc⟩ : ∃ c, exec .first s.commanded = .next c ∧ s.commanded.resetToInitial.BeginsPass .search c :=
    ⟨_, exec_first (h.accepting_commanded hi), h.inBounds_commanded.resetToInitial.beginsPass rfl .search⟩
  obtain ⟨e, b', hrun, hdev, hw⟩ := hc.finds hne hvalid
  obtain ⟨hfound, hsearch⟩ := e.succeed_search (hw.same.mode.trans hc.mode)
  have hinitial : c.search.ld = 0 ∧ c.search.ldf = false := by
    rw [hc.search]
    exact ⟨rfl, rfl⟩
  refine ⟨e.succeed, b', (commandOnBus_of_next hexec).trans hrun, hdev, State.finish_fsm .., hfound,
    hw.succeed_foundOn hc.mode hinitial.2, ?_⟩
  rw [hsearch]
  exact hw.path.finds_least hinitial.1

end Sys2Proof.Machine
end

section
/-! SUPPORT. The request sequence of a pass (41_search.md R93): each branch of an edge puts out its next request, or
leaves the wait states. -/

namespace Sys2Proof.Machine

/-! ### The requests of the bit positions -/

/-- The requests of the first `n` positions depend on the bits of those positions alone. -/
theorem positionRequests_congr {a b : Rom} {n : Nat} (h : sameBefore a b (n + 1)) :
    positionRequests a n = positionRequests b n := by
  induction n with
  | zero => rfl
  | succ n ih =>
    rw [positionRequests, positionRequests, ih (h.mono (Nat.le_succ _)), h (n + 1) (by omega) (by omega)]

/-- The write of position `p` fixes the third request of that position and leaves those before alone (41_search.md
R88). -/
theorem positionRequests_setRomBit (rom : Rom) {p : Nat} (d : Bool) (hp : 1 ≤ p ∧ p ≤ 64) :
    positionRequests (setRomBit rom p d) p =
      positionRequests rom (p - 1) ++ [0x200#10, 0x200#10] ++ [Request.writeBit d] := by
  obtain ⟨n, rfl⟩ : ∃ n, p = n + 1 := ⟨p - 1, by omega⟩
  have hbefore : sameBefore (setRomBit rom (n + 1) d) rom (n + 1) :=
    (sameBefore_setRomBit d hp le_rfl).mpr fun _ _ _ => rfl
  rw [positionRequests, positionRequests_congr hbefore, romBit_setRomBit rom d hp hp, if_pos rfl, Request.writeBit_eq,
    Nat.add_sub_cancel, List.append_assoc]
  rfl

theorem length_positionRequests (rom : Rom) (n : Nat) : (positionRequests rom n).length = 3 * n := by
  induction n with
  | zero => rfl
  | succ n ih =>
    rw [positionRequests, List.length_append, ih]
    rfl

/-! ### The sequence by wait state -/

section
variable {s : State}

theorem State.expectedRequests_of_idle (h : s.fsm = .idle) : s.expectedRequests = [] := by
  rw [State.expectedRequests, h]

theorem State.expectedRequests_of_rstWait (h : s.fsm = .rstWait) : s.expectedRequests = [0x000#10] := by
  rw [State.expectedRequests, h]

theorem State.expectedRequests_of_cmdWait (h : s.fsm = .cmdWait) : s.expectedRequests = [0x000#10, 0x3F0#10] := by
  rw [State.expectedRequests, h]

theorem State.expectedRequests_of_idWait (h : s.fsm = .idWait) :
    s.expectedRequests = [0x000#10, 0x3F0#10] ++ positionRequests s.search.rom (s.pass.p.toNat - 1) ++ [0x200#10] := by
  rw [State.expectedRequests, h]

theorem State.expectedRequests_of_cmpWait (h : s.fsm = .cmpWait) :
    s.expectedRequests =
      [0x000#10, 0x3F0#10] ++ positionRequests s.search.rom (s.pass.p.toNat - 1) ++ [0x200#10, 0x200#10] := by
  rw [State.expectedRequests, h]

theorem State.expectedRequests_of_dirWait (h : s.fsm = .dirWait) :
    s.expectedRequests = [0x000#10, 0x3F0#10] ++ positionRequests s.search.rom s.pass.p.toNat := by
  rw [State.expectedRequests, h]

end

/-! ### The branches of an edge -/

/-- A request put out continues the sequence where the sequence of the state it leads to has it next. -/
theorem State.RequestsInOrder.request {s t : State} {w : BitVec 10} (h : s.RequestsInOrder)
    (ht : t.trace = .request w :: s.trace) (he : t.expectedRequests = s.expectedRequests ++ [w]) :
    t.RequestsInOrder := by
  rw [State.RequestsInOrder, ht, requestsSince, h, he]

/-- A response ends the sequence (10_state.md R30). -/
theorem State.EndsCommand.requestsInOrder {s t : State} (h : s.EndsCommand t) : t.RequestsInOrder := by
  obtain ⟨hidle, -, l, ht⟩ := h
  rw [State.RequestsInOrder, ht, State.expectedRequests_of_idle hidle]
  rfl

/-- From IDLE `begin_search` answers at once, or puts out the first request of a pass (41_search.md R80, R81). -/
theorem State.RequestsInOrder.beginSearch {s : State} (h : s.RequestsInOrder) (hi : s.fsm = .idle) (m : Mode) :
    (s.beginSearch m).RequestsInOrder := by
  rcases s.beginSearch_cases m with ⟨-, he⟩ | ⟨-, he⟩ <;> rw [he]
  · exact (State.finish_endsCommand _ _ _).requestsInOrder
  · refine h.request rfl ?_
    rw [State.expectedRequests_of_idle hi]
    rfl

/-- The input levels are no part of the sequence. -/
theorem State.RequestsInOrder.nextInputs {s : State} (h : s.RequestsInOrder) : s.nextInputs.RequestsInOrder := by
  simpa [State.RequestsInOrder, State.expectedRequests] using h

/-- Every branch of an edge keeps the sequence: a response ends it, and a request is the next one of it. -/
theorem EdgeTo.requestsInOrder {s t : State} (h : s.Inv) (ho : s.RequestsInOrder) (he : EdgeTo s t) :
    t.RequestsInOrder := by
  cases he with
  | quiet => exact ho
  | illegal hc | crcStep hc => exact (State.respond_endsCommand hc.idle _ _).requestsInOrder
  | targetSetup hc | familySkipSetup hc =>
    exact State.EndsCommand.requestsInOrder (s := s) ⟨hc.idle, rfl, .none, rfl⟩
  | first hc => exact State.RequestsInOrder.beginSearch (s := s.resetToInitial) ho hc.idle _
  | next hc => exact ho.beginSearch hc.idle _
  | verify hc => exact State.RequestsInOrder.beginSearch (s := s.verifySetup _) ho hc.idle .verify
  | phyError | noPresence | violation => exact (State.fail_endsCommand _ _).requestsInOrder
  | lastPosition => exact (State.evaluate_endsCommand _).requestsInOrder
  | presence hp =>
    refine ho.request rfl ?_
    rw [State.expectedRequests_of_rstWait hp.fsm]
    rfl
  | commandByte hp =>
    obtain ⟨hone, -⟩ := h.start (.inr hp.fsm)
    refine ho.request rfl ?_
    rw [State.expectedRequests_of_cmdWait hp.fsm, State.expectedRequests_of_idWait rfl]
    simp only [State.goto_pass, State.issue_pass, hone]
    rfl
  | idBit hp =>
    refine ho.request rfl ?_
    rw [State.expectedRequests_of_idWait hp.fsm, State.expectedRequests_of_cmpWait rfl, List.append_assoc _ _ [_]]
    rfl
  | direction hp _ hc =>
    subst hc
    have hbound := (hp.positioned h rfl).p_bounds
    refine ho.request rfl ?_
    rw [State.expectedRequests_of_cmpWait hp.fsm, State.expectedRequests_of_dirWait rfl]
    change _ ++ positionRequests (setRomBit s.search.rom s.pass.p.toNat _) s.pass.p.toNat = _
    rw [positionRequests_setRomBit _ _ hbound]
    simp only [List.append_assoc]
  | @nextPosition q hp hq =>
    obtain ⟨q', hq', -, hnext, -⟩ := (hp.positioned h rfl).advance s.crc8Table s.search.rom
    cases hq'.symm.trans hq
    refine ho.request rfl ?_
    rw [State.expectedRequests_of_dirWait hp.fsm, State.expectedRequests_of_idWait rfl]
    change _ ++ positionRequests s.search.rom (q.p.toNat - 1) ++ _ = _
    rw [hnext]
    rfl

end Sys2Proof.Machine
end

section
/-! SUPPORT. How far a pass has to go (41_search.md R94): requests issued and responses left are 195 in all, and a
response taken leaves one fewer, so a PHY that answers at every edge brings the pass to its end. -/

namespace Sys2Proof.Machine

/-! ### The responses left by wait state -/

section
variable {s : State}

theorem State.responsesLeft_of_rstWait (h : s.fsm = .rstWait) : s.responsesLeft = 194 := by
  rw [State.responsesLeft, h]

theorem State.responsesLeft_of_cmdWait (h : s.fsm = .cmdWait) : s.responsesLeft = 193 := by
  rw [State.responsesLeft, h]

theorem State.responsesLeft_of_idWait (h : s.fsm = .idWait) : s.responsesLeft = 192 - 3 * (s.pass.p.toNat - 1) := by
  rw [State.responsesLeft, h]

theorem State.responsesLeft_of_cmpWait (h : s.fsm = .cmpWait) : s.responsesLeft = 191 - 3 * (s.pass.p.toNat - 1) := by
  rw [State.responsesLeft, h]

theorem State.responsesLeft_of_dirWait (h : s.fsm = .dirWait) : s.responsesLeft = 190 - 3 * (s.pass.p.toNat - 1) := by
  rw [State.responsesLeft, h]

end

/-- The requests issued and the responses left add up to one more than a pass's 194 requests (41_search.md R93, R94). -/
theorem State.Inv.length_expectedRequests {s : State} (h : s.Inv) (hw : s.fsm.waiting = true) :
    s.expectedRequests.length + s.responsesLeft = 195 := by
  cases hf : s.fsm with
  | idle | bad6 | bad7 => rw [hf] at hw; cases hw
  | rstWait | cmdWait => simp [State.expectedRequests, State.responsesLeft, hf]
  | idWait | cmpWait | dirWait =>
    have hbound := (h.position (by rw [hf]; rfl)).p_bounds
    simp only [State.expectedRequests, State.responsesLeft, hf, List.length_append, List.length_cons, List.length_nil,
      length_positionRequests]
    omega

/-- A pass in progress has at least one response to take, and at most 194 (41_search.md R94). -/
theorem State.Inv.responsesLeft_bounds {s : State} (h : s.Inv) (hw : s.fsm.waiting = true) :
    1 ≤ s.responsesLeft ∧ s.responsesLeft ≤ 194 := by
  cases hf : s.fsm with
  | idle | bad6 | bad7 => rw [hf] at hw; cases hw
  | rstWait | cmdWait => simp [State.responsesLeft, hf]
  | idWait | cmpWait | dirWait =>
    have hbound := (h.position (by rw [hf]; rfl)).p_bounds
    simp only [State.responsesLeft, hf]
    omega

@[simp] theorem State.nextInputs_responsesLeft (s : State) : s.nextInputs.responsesLeft = s.responsesLeft := by
  simp [State.responsesLeft]

/-! ### One response taken -/

/-- `t` is the pass of `s` gone on by one response, the levels to come untouched (41_search.md R94). -/
structure State.TakesOne (s t : State) : Prop where
  waiting : t.fsm.waiting = true
  silent : t.rspValid = s.rspValid
  left : t.responsesLeft + 1 = s.responsesLeft
  script : t.script = s.script

/-- A response taken ends the command, or leaves one response fewer: the states of a position follow each other, and
after position 64 comes the evaluation (41_search.md R82 to R89). -/
theorem EdgeTo.endsCommand_or_takesOne {s t : State} (h : s.Inv) (hw : s.fsm.waiting = true)
    (hv : s.inputs.phyRspValid = true) (he : EdgeTo s t) : s.EndsCommand t ∨ s.TakesOne t := by
  have hidle {r : Except DecodeError Instr} (hp : s.Presented r) : False := Fsm.ne_idle_of_waiting hw hp.idle
  cases he with
  | quiet hq =>
    rcases hq with ⟨hi, -⟩ | ⟨-, hn⟩
    · exact absurd hi (Fsm.ne_idle_of_waiting hw)
    · cases hv.symm.trans hn
  | illegal hp | first hp | next hp | verify hp | targetSetup hp | familySkipSetup hp | crcStep hp =>
    exact (hidle hp).elim
  | phyError | noPresence => exact .inl (s.fail_endsCommand _)
  | violation => exact .inl ((s.withCmpb s.inputs.phyBit).fail_endsCommand _)
  | @lastPosition q => exact .inl (State.evaluate_endsCommand { s with pass := q })
  | presence hp =>
    refine .inr ⟨rfl, rfl, ?_, rfl⟩
    rw [State.responsesLeft_of_rstWait hp.fsm]
    rfl
  | commandByte hp =>
    obtain ⟨hone, -⟩ := h.start (.inr hp.fsm)
    refine .inr ⟨rfl, rfl, ?_, rfl⟩
    rw [State.responsesLeft_of_cmdWait hp.fsm, State.responsesLeft_of_idWait rfl]
    simp [hone]
  | idBit hp =>
    have hbound := (hp.positioned h rfl).p_bounds
    refine .inr ⟨rfl, rfl, ?_, rfl⟩
    rw [State.responsesLeft_of_idWait hp.fsm, State.responsesLeft_of_cmpWait rfl]
    simp only [State.goto_pass, State.issue_pass]
    omega
  | direction hp _ hc =>
    subst hc
    have hbound := (hp.positioned h rfl).p_bounds
    refine .inr ⟨rfl, rfl, ?_, rfl⟩
    rw [State.responsesLeft_of_cmpWait hp.fsm, State.responsesLeft_of_dirWait rfl]
    change 190 - 3 * (s.pass.p.toNat - 1) + 1 = _
    omega
  | @nextPosition q hp hq hb =>
    have hpos := hp.positioned h rfl
    have hbound := hpos.p_bounds
    have hlast := mt (hpos.byte_eq_eight_iff hq).mpr hb
    obtain ⟨q', hq', -, hnext, -⟩ := hpos.advance s.crc8Table s.search.rom
    cases hq'.symm.trans hq
    refine .inr ⟨rfl, rfl, ?_, rfl⟩
    rw [State.responsesLeft_of_dirWait hp.fsm, State.responsesLeft_of_idWait rfl]
    simp only [State.goto_pass, State.issue_pass, hnext]
    omega

/-- A step that takes a response ends the command, or leaves a pass with one response fewer to take. -/
theorem State.Inv.step_of_response {s : State} (h : s.Inv) (hw : s.fsm.waiting = true) (hr : s.inputs.rst = false)
    (hv : s.inputs.phyRspValid = true) :
    ∃ u, step s = .next u.nextInputs ∧ u.Inv ∧ (s.beginEdge.EndsCommand u ∨ s.beginEdge.TakesOne u) := by
  obtain ⟨u, hs, he⟩ := h.step_of_no_rst hr
  exact ⟨u, hs, he.inv h.beginEdge, he.endsCommand_or_takesOne h.beginEdge hw hv⟩

/-! ### A PHY that answers at every edge -/

theorem answering_iff (i : Inputs) : answering i = true ↔ i.phyRspValid = true ∧ i.rst = false := by
  simp [answering]

/-- `s` is in a pass, and the PHY answers at this edge and at every edge that the script gives levels for
(70_reset_and_hazards.md R158). -/
structure State.AnsweredThroughout (s : State) : Prop where
  inv : s.Inv
  waiting : s.fsm.waiting = true
  now : answering s.inputs = true
  later : ∀ i ∈ s.script, answering i = true

theorem State.nextInputs_of_script {s : State} {i : Inputs} {rest : List Inputs} (h : s.script = i :: rest) :
    s.nextInputs = { s with inputs := i, script := rest } := by
  rw [State.nextInputs, h]

/-- With levels left in the script the PHY answers at the next edge too. -/
theorem State.AnsweredThroughout.nextInputs {s u : State} (h : s.AnsweredThroughout) (hu : u.Inv)
    (ht : s.beginEdge.TakesOne u) (hne : s.script ≠ []) :
    u.nextInputs.AnsweredThroughout ∧ u.nextInputs.script.length + 1 = s.script.length := by
  obtain ⟨i, rest, hscript⟩ := List.exists_cons_of_ne_nil hne
  obtain ⟨hi, hrest⟩ := List.forall_mem_cons.mp (hscript ▸ h.later)
  have hinv := hu.nextInputs
  rw [State.nextInputs_of_script (ht.script.trans hscript)] at hinv ⊢
  exact ⟨⟨hinv, ht.waiting, hi, hrest⟩, by rw [hscript]; rfl⟩

theorem core_run_succ {s t : State} (h : step s = .next t) (k : Nat) :
    Host.Core.run Sys2Proof.core (k + 1) s = Host.Core.run Sys2Proof.core k t := by
  have hstep : Sys2Proof.core.step s = .next t := h
  simp only [Host.Core.run, hstep]

/-- While the PHY answers, a pass ends within the responses it can still take (41_search.md R94). -/
theorem State.AnsweredThroughout.run_ends {s : State} {n : Nat} (h : s.AnsweredThroughout) (hn : s.responsesLeft ≤ n)
    (hlen : n ≤ s.script.length + 1) :
    ∃ (k : Nat) (t : State),
      k ≤ n ∧ Host.Core.run Sys2Proof.core k s = .next t ∧ t.fsm = .idle ∧ t.rspValid = true := by
  induction n generalizing s with
  | zero =>
    have hpos := (h.inv.responsesLeft_bounds h.waiting).1
    omega
  | succ n ih =>
    obtain ⟨hv, hr⟩ := (answering_iff _).mp h.now
    obtain ⟨u, hs, hu, ⟨hidle, hraised, -⟩ | hone⟩ := h.inv.step_of_response h.waiting hr hv
    · exact ⟨1, u.nextInputs, by omega, core_run_succ hs 0, (State.nextInputs_fsm u).trans hidle,
        (State.nextInputs_rspValid u).trans hraised⟩
    · have hpos := (hu.responsesLeft_bounds hone.waiting).1
      have hleft : u.responsesLeft + 1 = s.responsesLeft := hone.left
      have hne : s.script ≠ [] := List.ne_nil_of_length_pos (by omega)
      obtain ⟨hnext, hlength⟩ := h.nextInputs hu hone hne
      obtain ⟨k, t, hk, hrun, hend⟩ := ih hnext (by rw [State.nextInputs_responsesLeft]; omega) (by omega)
      exact ⟨k + 1, t, by omega, (core_run_succ hs k).trans hrun, hend⟩

end Sys2Proof.Machine
end

section
/-! The obligations on the request sequence of a pass, and on its end under a PHY that answers. -/

namespace Sys2Proof.Machine

/-- Settles O44: each branch of an edge keeps the sequence, and reset leaves the wait states with an empty one. -/
theorem requestSequenceKept : Obligations.RequestSequenceKept := by
  intro s t h ho hstep
  rcases h.step_cases with ⟨-, hs⟩ | ⟨-, u, hs, he⟩ <;> cases hs.symm.trans hstep
  · have hreset : s.resetEdge.RequestsInOrder := rfl
    exact hreset.nextInputs
  · exact (he.requestsInOrder h.beginEdge ho).nextInputs

/-- Settles O51: at the start at most 194 responses are left, and the script answers at all edges but the first. -/
theorem passEndsWithin194 : Obligations.PassEndsWithin194 := by
  intro s h hw hnow hlater hlen
  have hs : s.AnsweredThroughout := ⟨h, hw, hnow, hlater⟩
  exact hs.run_ends (h.responsesLeft_bounds hw).2 (by omega)

/-- Settles O45: the sequence of each wait state has as many requests as responses are gone, and at position 64 one
response is left. -/
theorem requestCount : Obligations.RequestCount := by
  intro s h ho hw
  have hsum := h.length_expectedRequests hw
  rw [ho]
  refine ⟨hsum, fun hf hp => ?_⟩
  have hone : s.responsesLeft = 1 := by
    rw [State.responsesLeft_of_dirWait hf, hp]
    rfl
  omega

/-- Settles O50: the response ends the command, or leaves a pass with one response fewer. -/
theorem eachResponseBringsTheEndNearer : Obligations.EachResponseBringsTheEndNearer := by
  intro s t h hw hr hv hstep
  obtain ⟨hlow, hhigh⟩ := h.responsesLeft_bounds hw
  obtain ⟨u, hs, -, hu⟩ := h.step_of_response hw hr hv
  cases hs.symm.trans hstep
  rw [State.nextInputs_fsm, State.nextInputs_rspValid, State.nextInputs_responsesLeft]
  exact ⟨hlow, hhigh, hu.imp (fun ⟨hidle, hraised, _⟩ => ⟨hidle, hraised⟩)
    fun hone => ⟨hone.waiting, hone.silent, hone.left⟩⟩

end Sys2Proof.Machine
end

section
/-! SUPPORT. The CRC-8 table as eight shifts (40_crc8.md R72): a shift is linear, and so is the default table
(R77). -/

namespace Sys2Proof.Machine

/-! ### One shift -/

/-- The constant a shift subtracts, for the bit it drops (40_crc8.md R72). -/
def crcFeedback (fb : Bool) : Byte := if fb then 0x8C else 0

theorem crcFeedback_xor (a b : Bool) : crcFeedback (a ^^ b) = crcFeedback a ^^^ crcFeedback b := by
  revert a b; decide

theorem crcShift_eq (x : Byte) : crcShift x = (x >>> 1) ^^^ crcFeedback (x.getLsbD 0) := by
  unfold crcShift
  cases x.getLsbD 0 <;> simp [crcFeedback]

theorem crcSerialBit_eq (byte acc : Byte) (i : Nat) :
    crcSerialBit byte acc i = (acc >>> 1) ^^^ crcFeedback ((acc ^^^ (byte >>> i)).getLsbD 0) := by
  unfold crcSerialBit
  cases (acc ^^^ (byte >>> i)).getLsbD 0 <;> simp [crcFeedback]

theorem crcShift_xor (a b : Byte) : crcShift (a ^^^ b) = crcShift a ^^^ crcShift b := by
  rw [crcShift_eq, crcShift_eq, crcShift_eq, BitVec.ushiftRight_xor_distrib, BitVec.getLsbD_xor, crcFeedback_xor]
  ac_rfl

/-- One bit of the serial CRC is one shift of the accumulator with the bits still to come added (40_crc8.md R72). -/
theorem crcSerialBit_xor (byte acc : Byte) (i : Nat) :
    crcSerialBit byte acc i ^^^ (byte >>> (i + 1)) = crcShift (acc ^^^ (byte >>> i)) := by
  rw [crcSerialBit_eq, crcShift_eq, BitVec.ushiftRight_xor_distrib, BitVec.shiftRight_add]
  ac_rfl

/-! ### Eight shifts -/

/-- `n` bits of the serial CRC are `n` shifts of the accumulator with the byte added (40_crc8.md R72). -/
theorem crcSerialBit_foldl (byte acc : Byte) (n : Nat) :
    (List.range n).foldl (crcSerialBit byte) acc ^^^ (byte >>> n) = Nat.repeat crcShift n (acc ^^^ byte) := by
  induction n with
  | zero => simp [Nat.repeat]
  | succ n ih =>
    rw [List.range_succ, List.foldl_append, List.foldl_cons, List.foldl_nil, crcSerialBit_xor, ih, Nat.repeat]

/-- The bit-serial CRC generates from the sum of accumulator and byte (40_crc8.md R72). -/
theorem crcSerial_eq_crcGenerate (acc byte : Byte) : crcSerial acc byte = crcGenerate (acc ^^^ byte) := by
  have hgone : byte >>> 8 = 0#8 := BitVec.ushiftRight_eq_zero le_rfl
  rw [crcGenerate, ← crcSerialBit_foldl, hgone, BitVec.xor_zero, crcSerial]

theorem crcShift_repeat_xor (n : Nat) (a b : Byte) :
    Nat.repeat crcShift n (a ^^^ b) = Nat.repeat crcShift n a ^^^ Nat.repeat crcShift n b := by
  induction n with
  | zero => rfl
  | succ n ih => rw [Nat.repeat, ih, crcShift_xor, Nat.repeat, Nat.repeat]

/-! ### The default table (log entry 5) -/

/-- Each of the 256 entries listed in 40_crc8.md R73 is the generated one (R72). -/
theorem tableEntry_default (i : Byte) : tableEntry State.reset.crc8Table i = crcGenerate i := by
  revert i; decide

/-- The default table is linear (40_crc8.md R77). -/
theorem tableEntry_default_xor (a b : Byte) :
    tableEntry State.reset.crc8Table (a ^^^ b) =
      tableEntry State.reset.crc8Table a ^^^ tableEntry State.reset.crc8Table b := by
  simp only [tableEntry_default, crcGenerate, crcShift_repeat_xor]

/-- Of the 256 entries listed only the first is 0 (40_crc8.md R77). -/
theorem zeroOnlyAtZero_default : zeroOnlyAtZero State.reset.crc8Table := by
  unfold zeroOnlyAtZero
  decide

/-- A linear table that is 0 at 0 only is injective, hence a bijection of the bytes (40_crc8.md R77). -/
theorem tableEntry_bijective {table : CrcTable} (h0 : zeroOnlyAtZero table)
    (hxor : ∀ a b : Byte, tableEntry table (a ^^^ b) = tableEntry table a ^^^ tableEntry table b) :
    Function.Bijective (tableEntry table) := by
  refine Function.Injective.bijective_of_finite fun a b hab => BitVec.xor_eq_zero_iff.mp ((h0 _).mp ?_)
  rw [hxor, hab]
  exact BitVec.xor_self

/-- Bit `k` of `x` taken into a sum of the values of `f` at the bits of `x`. -/
def addBit (f : Byte → Byte) (x a : Byte) (k : Nat) : Byte := if x.getLsbD k then a ^^^ f (1#8 <<< k) else a

/-- The sum of the values of `f` at the bits of `x` (40_crc8.md R77). -/
def bitSum (f : Byte → Byte) (x : Byte) : Byte := (List.range 8).foldl (addBit f x) 0

theorem bitSum_id (x : Byte) : bitSum id x = x := by
  revert x; decide

/-- A linear table's entry is the sum of the single-bit entries of its index (40_crc8.md R77). -/
theorem tableEntry_eq_bitSum {table : CrcTable} (h0 : tableEntry table 0 = 0)
    (hxor : ∀ a b : Byte, tableEntry table (a ^^^ b) = tableEntry table a ^^^ tableEntry table b) (x : Byte) :
    tableEntry table x = bitSum (tableEntry table) x := by
  have hbit (a : Byte) (k : Nat) :
      addBit (tableEntry table) x (tableEntry table a) k = tableEntry table (addBit id x a k) := by
    unfold addBit
    split
    · exact (hxor _ _).symm
    · rfl
  calc tableEntry table x
      = tableEntry table (bitSum id x) := by rw [bitSum_id]
    _ = (List.range 8).foldl (addBit (tableEntry table) x) (tableEntry table 0) := (List.foldl_hom _ hbit).symm
    _ = bitSum (tableEntry table) x := by rw [h0, bitSum]

/-! ### The CRC over the bytes of an id -/

theorem crc8Run_append_singleton (table : CrcTable) (acc : Byte) (bs : List Byte) (b : Byte) :
    crc8Run table acc (bs ++ [b]) = crc8Step table (crc8Run table acc bs) b := by
  rw [crc8Run, List.foldl_append]
  rfl

/-- Where 0 is the only index with entry 0, a step answers 0 for equal operands alone (40_crc8.md R76). -/
theorem crc8Step_eq_zero_iff {table : CrcTable} (h0 : zeroOnlyAtZero table) (acc b : Byte) :
    crc8Step table acc b = 0 ↔ acc = b :=
  (h0 _).trans BitVec.xor_eq_zero_iff

end Sys2Proof.Machine
end

section
/-! The obligations on the CRC-8 table: its generation, its properties (log entry 5), and validation by CRC. -/

namespace Sys2Proof.Machine

/-- Settles O15: the entries are the generated ones, and eight bits of the serial CRC are the shifts of an entry. -/
theorem tableIsGenerated : Obligations.TableIsGenerated :=
  ⟨tableEntry_default, fun acc byte => (tableEntry_default _).trans (crcSerial_eq_crcGenerate acc byte).symm⟩

/-- Settles O16: the table is linear because the shift is, and 0 at 0 only; the rest follows from these two. -/
theorem tableProperties : Obligations.TableProperties := by
  rintro _ rfl
  have h0 : tableEntry State.reset.crc8Table 0 = 0 := (zeroOnlyAtZero_default 0).mpr rfl
  exact ⟨h0, tableEntry_bijective zeroOnlyAtZero_default tableEntry_default_xor, zeroOnlyAtZero_default,
    tableEntry_default_xor, by decide, by decide, by decide, by decide, by decide, by decide, by decide, by decide,
    tableEntry_eq_bitSum h0 tableEntry_default_xor⟩

/-- Settles O17: the eighth step is from the accumulator over the seven bytes. -/
theorem crcValidation : Obligations.CrcValidation := by
  intro table bs b7 h0 _
  rw [crc8Run_append_singleton, crc8Step_eq_zero_iff h0, eq_comm]

end Sys2Proof.Machine
end

section
/-! The obligations on the edges at which the ports offer nothing the block waits for: a response to another request,
and nothing at all. -/

namespace Sys2Proof.Machine

/-- A response in a wait state that did not issue its request is the fault of log entry 8. -/
theorem State.takeResponse_of_not_awaited {s : State} {f : Fsm} {waits : List Fsm} {r : Result} (h : s.Awaiting f)
    (hf : f ≠ .idle) (hw : f ∉ waits) : s.takeResponse waits r = .fault .requestMismatch := by
  obtain ⟨hr, rfl, hi⟩ := h
  have hno : ¬ s.inputs.rst = true := by simp [hi]
  rw [State.takeResponse, State.guarded_of_inRange hr, if_neg hno, if_neg hf, if_neg hw]

/-- Settles O40: each request's row names the wait states it is taken in. -/
theorem mismatchedResponseFaults : Obligations.MismatchedResponseFaults := by
  rintro s i f h hf (⟨rfl, hne⟩ | ⟨⟨v, rfl⟩, hne⟩ | ⟨rfl, hne⟩ | ⟨⟨d, rfl⟩, hne⟩) <;>
    exact State.takeResponse_of_not_awaited h hf (by simpa using hne)

/-- Neither port offers anything (70_reset_and_hazards.md R150, R158). -/
theorem fetch_eq_quiet {s : State}
    (h : s.fsm = .idle ∧ s.inputs.cmdValid = false ∨ s.fsm ≠ .idle ∧ s.inputs.phyRspValid = false) :
    fetch s = .quiet := by
  unfold fetch
  rcases h with ⟨hi, hv⟩ | ⟨hi, hv⟩
  · simp [hi, fetchCommand, hv]
  · simp [hi, fetchRequest, hv]

/-- Settles O5: a quiet edge holds the registers. -/
theorem quietEdgeKeepsRegisters : Obligations.QuietEdgeKeepsRegisters := by
  intro s hrange hr hquiet
  have hhold : edge s.beginEdge = .next s.beginEdge := by
    rw [edge, fetch_eq_quiet (s := s.beginEdge) hquiet]
    exact State.guarded_of_inRange hrange
  rw [step_of_no_rst hr, hhold]
  rfl

end Sys2Proof.Machine
end
